-- ==== Sys2Proof/Word.lean ====
section
/-! DEFINITION. The word types of UNG5-CORE: bytes, 16-bit words, 4-bit fields (spec/00_scope.md R8). All are unsigned. -/

namespace Sys2Proof

/-- One byte: the unit of every buffer index and of the wire (R50, R57). -/
abbrev Byte := BitVec 8

/-- A 16-bit quantity: the CRC and the receive timers (R21). -/
abbrev Word16 := BitVec 16

/-- A 4-bit field: transaction number, control code, command, error code (R21, R126). -/
abbrev Nibble := BitVec 4

end Sys2Proof
end

