-- ==== Sys2Proof/Config.lean ====
section
/-! DEFINITION. The constants the spec fixes (R6, and R7's rows fixed by decision) and the parameters of an instance (R7, R263). -/

namespace Sys2Proof

/-- The parameters an implementation fixes for the life of an instance (R7, R263). Log 6: each defaults to the spec's value; a
statement about the machine holds for every value. -/
structure Config where
  /-- `QUIET_TICKS` (R7, R179): "≈50 ms", 50 by decision D3; I2 lets a model lift it to a parameter. -/
  quietTicks : Nat
  /-- `CONFIRM_TICKS` (R7, R178): open, default 10. -/
  confirmTicks : Nat
  /-- `RX_CAP` (R7, R174): open, default 1024. -/
  rxCap : Nat
  /-- `STATUS_BYTE_INDEX` (R7, R208): open, 0 or 1, default 0. -/
  statusByteIndex : Nat
  /-- `BCD_MAX_BYTES` (R7, R210): open, default 8. -/
  bcdMaxBytes : Nat
  deriving DecidableEq, Repr

namespace Config

/-- The parameters at the values R7 shows. DESIGN CHOICE (log 6). -/
def default : Config :=
  { quietTicks := 50, confirmTicks := 10, rxCap := 1024, statusByteIndex := 0, bcdMaxBytes := 8 }

/-- The constraints of R7 and R208: 1 <= `CONFIRM_TICKS` <= `QUIET_TICKS`, `RX_CAP` >= 9, `STATUS_BYTE_INDEX` in 0, 1. -/
abbrev Valid (c : Config) : Prop :=
  1 ≤ c.confirmTicks ∧ c.confirmTicks ≤ c.quietTicks ∧ 9 ≤ c.rxCap ∧ c.statusByteIndex ≤ 1

/-- `POLY` (R6). -/
abbrev poly : Word16 := 0x8408
/-- `CRC_INIT` (R6). -/
abbrev crcInit : Word16 := 0x0000
/-- `STOP_FLAG` (R6). -/
abbrev stopFlag : Byte := 0xFA
/-- `ETX` (R6). -/
abbrev etx : Byte := 0x03
/-- `MASTER` (R6): bit 7 of the control byte. -/
abbrev master : Byte := 0x80
/-- `CC_POLL` (R6). -/
abbrev ccPoll : Nibble := 1
/-- `CC_ACK` (R6). -/
abbrev ccAck : Nibble := 2
/-- `CC_NACK` (R6). -/
abbrev ccNack : Nibble := 3
/-- `CC_DATA` (R6). -/
abbrev ccData : Nibble := 4
/-- `CC_ACKPOLL` (R6): named only (R84). -/
abbrev ccAckPoll : Nibble := 5
/-- `ADDR_LO` (R6). -/
abbrev addrLo : Byte := 0x50
/-- `ADDR_HI` (R6). -/
abbrev addrHi : Byte := 0x6F
/-- `TXN_MIN` (R6). -/
abbrev txnMin : Nibble := 1
/-- `TXN_MAX` (R6). -/
abbrev txnMax : Nibble := 15
/-- `MIN_DATA_FRAME` (R6): the receive state machine's minimum. -/
abbrev minDataFrame : Nat := 8
/-- `DEC_MIN_LEN` (R6): the smallest sequence the decoder tries as a DATA frame. -/
abbrev decMinLen : Nat := 7
/-- `SHORT_LEN` (R6). -/
abbrev shortLen : Nat := 3
/-- `ECHO_CTRL` (R6): third byte of the noise pattern. -/
abbrev echoCtrl : Byte := 0x81
/-- `REPEATS` (R6). -/
abbrev repeats : Nat := 3
/-- `RT_NOZZLE_STATUS` (R6): response type NOZZLE_STATUS. -/
abbrev rtNozzleStatus : Nibble := 0
/-- `TICK_MS` (R7): nominal, no rule depends on it. -/
abbrev tickMs : Nat := 1
/-- `PATTERN_LEN` (R7, D9). -/
abbrev patternLen : Nat := 3
/-- `XP_MAX` (R7, D14). -/
abbrev xpMax : Nat := 254
/-- `TX_CAP` (R7, D30). -/
abbrev txCap : Nat := 262

end Config

end Sys2Proof
end

