-- ==== Sys2Proof/Machine/Operands.lean ====
section
/-! DEFINITION. Fields of bytes (R73 to R75, R201 to R205): extraction, assembly, the address flag of R83, and byte sequences by index.
Pure functions. -/

namespace Sys2Proof.Machine

/-- Byte `i` of a sequence operand, `s[i]` of R9. Every use stands behind a length test that puts `i` in range. -/
def byteAt (bytes : List Byte) (i : Nat) : Byte := bytes.getD i 0

/-- The half-open slice `s[a : b]` of R9. -/
def slice (bytes : List Byte) (a b : Nat) : List Byte := (bytes.take b).drop a

/-- Bits 7 to 4 of a byte. -/
def hiNibble (b : Byte) : Nibble := b.extractLsb' 4 4

/-- Bits 3 to 0 of a byte. -/
def loNibble (b : Byte) : Nibble := b.extractLsb' 0 4

/-- `masterFlag`, bit 7 of the control byte (R73, R201). -/
def ctrlMaster (c : Byte) : Bool := c.getLsbD 7

/-- `tx3`, bits 6 to 4 of the control byte (R73, R201). -/
def ctrlTx3 (c : Byte) : BitVec 3 := c.extractLsb' 4 3

/-- `controlCode`, bits 3 to 0 of the control byte (R73, R201). -/
def ctrlCode (c : Byte) : Nibble := loNibble c

/-- Assembly of a control byte from a 4-bit transaction number and a control code (R74): the shift is done in more than 8 bits and
the result truncated, so bit 3 of `tx` is lost. -/
def controlByte (tx code : Nibble) : Byte :=
  (Config.master.setWidth 12 ||| (tx.setWidth 12 <<< 4) ||| code.setWidth 12).setWidth 8

/-- A control byte from its three fields (R73). -/
def packControl (m : BitVec 1) (t : BitVec 3) (c : Nibble) : Byte := m ++ t ++ c

/-- Assembly of an outbound `opc` byte (R75): `((command << 4) | (nozzle & 0xF)) mod 256`. -/
def opcByte (cmd : Nibble) (noz : Byte) : Byte :=
  ((cmd.setWidth 12 <<< 4) ||| (noz &&& 0x0F).setWidth 12).setWidth 8

/-- An `opc` byte from its two nibbles (R75). -/
def packOpc (h n : Nibble) : Byte := h ++ n

/-- A status byte from its fields, bit 7 first (R204, R205). -/
def packStatus (u e f n : BitVec 1) (code : Nibble) : Byte := u ++ e ++ f ++ n ++ code

/-- `addr_ok` (R83): the pump address is in the valid range. -/
def addrOk (addr : Byte) : Bool := decide (Config.addrLo ≤ addr) && decide (addr ≤ Config.addrHi)

/-- The successor of a transaction number (R221): 15 goes to 1. -/
def txnNext (t : Nibble) : Nibble := if t = Config.txnMax then Config.txnMin else t + 1

/-- A nibble operand carried in one byte, bits 7 to 4 zero (the model's layout, log 2). -/
def nibbleOf? (b : Byte) : Option Nibble := if hiNibble b = 0 then some (loNibble b) else none

/-- A nibble as one byte, bits 7 to 4 zero. -/
def nibbleByte (n : Nibble) : Byte := n.setWidth 8

/-- Low byte of a 16-bit value, `v[7:0]` (R54, R77). -/
def lowByte (v : Word16) : Byte := v.extractLsb' 0 8

/-- High byte of a 16-bit value, `v[15:8]` (R54, R77). -/
def highByte (v : Word16) : Byte := v.extractLsb' 8 8

/-- A 16-bit value from its bytes, low byte first (R57): `lo | (hi << 8)`. -/
def wordOf (lo hi : Byte) : Word16 := lo.setWidth 16 ||| (hi.setWidth 16 <<< 8)

end Sys2Proof.Machine
end

