-- ==== Sys2Proof/Machine/Checksum.lean ====
section
/-! DEFINITION. U1's pure functions: the CRC-16 of R100 and R101. -/

namespace Sys2Proof.Machine

/-- One of the 8 iterations of R100: shift right, and exclusive-OR `POLY` if bit 0 was set before the shift. -/
def crcShift (c : Word16) : Word16 :=
  if c.getLsbD 0 then (c >>> 1) ^^^ Config.poly else c >>> 1

/-- `n` iterations of R100. -/
def crcShifts : Nat → Word16 → Word16
  | 0, c => c
  | n + 1, c => crcShifts n (crcShift c)

/-- `crc_step(c, b)` (R100): the byte is exclusive-ORed into bits 7 to 0, then 8 iterations. -/
def crcStep (c : Word16) (b : Byte) : Word16 := crcShifts 8 (c ^^^ b.setWidth 16)

/-- `crc16(s)` (R101): the left fold of `crc_step` from 0x0000, byte 0 first, with no final step. -/
def crc16 (bytes : List Byte) : Word16 := bytes.foldl crcStep Config.crcInit

end Sys2Proof.Machine
end

