-- ==== Sys2Proof/Machine/Frames.lean ====
section
/-! DEFINITION. The bytes of the wire frames (R70 to R72, R77, R78), as pure functions. -/

namespace Sys2Proof.Machine

/-- A short control frame (R71). -/
def shortFrame (addr control : Byte) : List Byte := [addr, control, Config.stopFlag]

/-- The data span of a DATA frame: `address` through the last extra-payload byte (R72). The `length` byte is `1 + E` (R76); the
callers keep `E` at most 254 (R127). -/
def dataSpan (addr control opc : Byte) (xp : List Byte) : List Byte :=
  [addr, control, BitVec.ofNat 8 (1 + xp.length), opc] ++ xp

/-- A byte span followed by its CRC low byte first, ETX and STOP_FLAG (R72, R77, R78). -/
def closeFrame (span : List Byte) : List Byte :=
  span ++ [lowByte (crc16 span), highByte (crc16 span), Config.etx, Config.stopFlag]

/-- A DATA frame from its control and `opc` bytes (R72): `8 + E` bytes. -/
def dataFrame (addr control opc : Byte) (xp : List Byte) : List Byte :=
  closeFrame (dataSpan addr control opc xp)

/-- The control byte of a poll, 0x81: transaction number zero (R79, R121). -/
def pollControl : Byte := controlByte 0 Config.ccPoll

/-- The control byte of a frame on the wire with the master flag set (R73): the table's pattern `1tttcccc`. -/
def wireControl (tx3 : BitVec 3) (code : Nibble) : Byte := packControl 1 tx3 code

end Sys2Proof.Machine
end

