-- ==== Sys2Proof/Syntax.lean ====
section
/-! DEFINITION. The instructions: one constructor per row of spec/opcode_table.json (R86's 24 stimuli, then the four wire frame
formats of R71 and R72 and the three byte layouts of R73, R75, R204), and the inputs that carry them. -/

namespace Sys2Proof

/-- The rows of spec/opcode_table.json. Operands have the widths of R86 and R126. The last seven rows are formats, not stimuli of
R86: as instructions they are that frame given to the decoder U3, or that byte given to the unpacker U5 (log 3). -/
inductive Instr where
  /-- `NOP` (R88) -/
  | nop
  /-- `CRC_CLR` (R102) -/
  | crcClr
  /-- `CRC_UPD b` (R103) -/
  | crcUpd (b : Byte)
  /-- `CRC_RD` (R105) -/
  | crcRd
  /-- `CRC_BLK bytes` (R106) -/
  | crcBlk (bytes : List Byte)
  /-- `CRC_CHK bytes` (R107) -/
  | crcChk (bytes : List Byte)
  /-- `BLD_POLL addr` (R121) -/
  | bldPoll (addr : Byte)
  /-- `BLD_ACK addr, tx` (R122) -/
  | bldAck (addr : Byte) (tx : Nibble)
  /-- `BLD_NACK addr, tx` (R123) -/
  | bldNack (addr : Byte) (tx : Nibble)
  /-- `BLD_DATA addr, cmd, noz, tx, xp` (R124) -/
  | bldData (addr : Byte) (cmd : Nibble) (noz : Byte) (tx : Nibble) (xp : List Byte)
  /-- `SND_DATA addr, cmd, noz, xp` (R128) -/
  | sndData (addr : Byte) (cmd : Nibble) (noz : Byte) (xp : List Byte)
  /-- `DEC_FRAME bytes` (R151) -/
  | decFrame (bytes : List Byte)
  /-- `RX_START addr, total` (R171) -/
  | rxStart (addr : Byte) (total : Word16)
  /-- `RX_BYTE b` (R173) -/
  | rxByte (b : Byte)
  /-- `RX_TICK` (R177) -/
  | rxTick
  /-- `RX_RD` (R184) -/
  | rxRd
  /-- `UNP_CTRL c` (R201) -/
  | unpCtrl (c : Byte)
  /-- `UNP_OPC o` (R203) -/
  | unpOpc (o : Byte)
  /-- `UNP_STAT st` (R204) -/
  | unpStat (st : Byte)
  /-- `BCD_CONV bytes` (R210) -/
  | bcdConv (bytes : List Byte)
  /-- `TXN_RD` (R220) -/
  | txnRd
  /-- `TXN_ADV` (R221) -/
  | txnAdv
  /-- `TXN_TAKE` (R222) -/
  | txnTake
  /-- `RESET` (R260) -/
  | reset
  /-- `FRAME_POLL`: `addr, 0x81, 0xFA` (R71) -/
  | framePoll (addr : Byte)
  /-- `FRAME_ACK`: `addr, 1ttt0010, 0xFA` (R71) -/
  | frameAck (addr : Byte) (tx3 : BitVec 3)
  /-- `FRAME_NACK`: `addr, 1ttt0011, 0xFA` (R71) -/
  | frameNack (addr : Byte) (tx3 : BitVec 3)
  /-- `FRAME_DATA`: `addr, 1ttt0100, 1 + E, opc, E bytes, crcLo, crcHi, 0x03, 0xFA` (R72) -/
  | frameData (addr : Byte) (tx3 : BitVec 3) (opc : Byte) (xp : List Byte)
  /-- `FIELD_CONTROL`: bit 7 `m`, bits 6 to 4 `t`, bits 3 to 0 `c` (R73) -/
  | fieldControl (m : BitVec 1) (t : BitVec 3) (c : Nibble)
  /-- `FIELD_OPC`: bits 7 to 4 `h`, bits 3 to 0 `n` (R75) -/
  | fieldOpc (h n : Nibble)
  /-- `FIELD_STATUS`: bit 7 `u` unmapped (R205), bit 6 `e`, bit 5 `f`, bit 4 `n`, bits 3 to 0 `code` (R204) -/
  | fieldStatus (u e f n : BitVec 1) (code : Nibble)
  deriving DecidableEq, Repr

/-- Where an input is offered (log 3): as a stimulus of R86 (a code and its operands), as a byte sequence on the wire given to the
decoder (R79), or as one byte given to a layout of the unpacker (R73, R75, R204). -/
inductive Space where
  | stimulus
  | wire
  | control
  | opc
  | status
  deriving DecidableEq, Repr

/-- One input the environment offers to the block (R11), in bytes. The byte layout is the model's (log 2). -/
structure Input where
  space : Space
  bytes : List Byte
  deriving DecidableEq, Repr

end Sys2Proof
end

