-- ==== Sys2Proof/WellFormed.lean ====
section
/-! DEFINITION. Which instructions are well formed. The operand widths of R86 are the constructors' own types, so the one check
left is the length of a wire frame's extra payload (R72). -/

namespace Sys2Proof

/-- A DATA frame on the wire has at most 254 bytes of extra payload: its `length` byte is `1 + E` (R72, R76). The operand `xp` of
`BLD_DATA` and `SND_DATA` has no such bound: a longer one is a legal presentation that is answered with LengthOverflow (R127). -/
def Instr.wellFormed : Instr → Bool
  | .frameData _ _ _ xp => decide (xp.length ≤ Config.xpMax)
  | .nop | .crcClr | .crcUpd _ | .crcRd | .crcBlk _ | .crcChk _ => true
  | .bldPoll _ | .bldAck _ _ | .bldNack _ _ | .bldData _ _ _ _ _ | .sndData _ _ _ _ => true
  | .decFrame _ | .rxStart _ _ | .rxByte _ | .rxTick | .rxRd => true
  | .unpCtrl _ | .unpOpc _ | .unpStat _ | .bcdConv _ => true
  | .txnRd | .txnAdv | .txnTake | .reset => true
  | .framePoll _ | .frameAck _ _ | .frameNack _ _ => true
  | .fieldControl _ _ _ | .fieldOpc _ _ | .fieldStatus _ _ _ _ _ => true

end Sys2Proof
end

