-- ==== Sys2Proof/Decode.lean ====
section
/-! DEFINITION. The decoder from inputs to instructions, total and rejecting by name, and the encoder. The stimulus codes are R86's,
the frames R71 and R72, the byte layouts R73, R75 and R204; the byte layout of a stimulus's operands is the model's (log 2). -/

namespace Sys2Proof

open Sys2Proof.Machine

/-- Why an input is no instruction. Only `illegalCode` is a case of the spec (R87); the others say that the input is no stimulus of
R86 with its operands and no byte of a layout at all (log 5). -/
inductive DecodeError where
  /-- An input of no bytes. -/
  | empty
  /-- A stimulus code outside R86 (R87). -/
  | illegalCode (code : Byte)
  /-- Fewer bytes than the fixed operands need. -/
  | missingOperands
  /-- More bytes than the operands take. -/
  | trailingOperands
  /-- A byte that carries a 4-bit operand has a bit set above bit 3: "a host value above 15 cannot be presented" (R126). -/
  | operandTooWide
  deriving DecidableEq, Repr

/-- The stimulus codes of R86; the format rows are no stimuli and have none. -/
def stimulusCode : Instr → Option Byte
  | .nop => some 0x00
  | .crcClr => some 0x10
  | .crcUpd _ => some 0x11
  | .crcRd => some 0x12
  | .crcBlk _ => some 0x13
  | .crcChk _ => some 0x14
  | .bldPoll _ => some 0x20
  | .bldAck _ _ => some 0x21
  | .bldNack _ _ => some 0x22
  | .bldData _ _ _ _ _ => some 0x23
  | .sndData _ _ _ _ => some 0x24
  | .decFrame _ => some 0x30
  | .rxStart _ _ => some 0x40
  | .rxByte _ => some 0x41
  | .rxTick => some 0x42
  | .rxRd => some 0x43
  | .unpCtrl _ => some 0x50
  | .unpOpc _ => some 0x51
  | .unpStat _ => some 0x52
  | .bcdConv _ => some 0x53
  | .txnRd => some 0x60
  | .txnAdv => some 0x61
  | .txnTake => some 0x62
  | .reset => some 0xFF
  | .framePoll _ | .frameAck _ _ | .frameNack _ _ | .frameData _ _ _ _ => none
  | .fieldControl _ _ _ | .fieldOpc _ _ | .fieldStatus _ _ _ _ _ => none

/-- How many operand bytes a code has at least, and whether a byte sequence may follow them; `none` for a code outside R86. -/
def operandShape (code : Nat) : Option (Nat × Bool) :=
  match code with
  | 0x00 | 0x10 | 0x12 | 0x42 | 0x43 | 0x60 | 0x61 | 0x62 | 0xFF => some (0, false)
  | 0x11 | 0x20 | 0x41 | 0x50 | 0x51 | 0x52 => some (1, false)
  | 0x21 | 0x22 => some (2, false)
  | 0x40 => some (3, false)
  | 0x13 | 0x14 | 0x30 | 0x53 => some (0, true)
  | 0x23 => some (4, true)
  | 0x24 => some (3, true)
  | _ => none

/-- Why operand bytes do not fit a code that is in R86's table. -/
def operandError (need : Nat) (ops : List Byte) : DecodeError :=
  if ops.length < need then .missingOperands else .trailingOperands

/-- A stimulus without operands. -/
def decode0 (i : Instr) : List Byte → Except DecodeError Instr
  | [] => .ok i
  | ops => .error (operandError 0 ops)

/-- A stimulus with one 8-bit operand. -/
def decode1 (f : Byte → Instr) : List Byte → Except DecodeError Instr
  | [b] => .ok (f b)
  | ops => .error (operandError 1 ops)

/-- A 4-bit operand in one byte. -/
def decodeNibble (b : Byte) (f : Nibble → Instr) : Except DecodeError Instr :=
  match nibbleOf? b with
  | some n => .ok (f n)
  | none => .error .operandTooWide

/-- `BLD_ACK` and `BLD_NACK`: `addr`, `tx`. -/
def decodeAddrTx (f : Byte → Nibble → Instr) : List Byte → Except DecodeError Instr
  | [addr, tx] => decodeNibble tx (f addr)
  | ops => .error (operandError 2 ops)

/-- `BLD_DATA`: `addr`, `cmd`, `noz`, `tx`, then `xp` to the end of the input. -/
def decodeBldData : List Byte → Except DecodeError Instr
  | addr :: cmd :: noz :: tx :: xp =>
    match nibbleOf? cmd with
    | some cmd => decodeNibble tx (fun tx => .bldData addr cmd noz tx xp)
    | none => .error .operandTooWide
  | ops => .error (operandError 4 ops)

/-- `SND_DATA`: `addr`, `cmd`, `noz`, then `xp` to the end of the input. -/
def decodeSndData : List Byte → Except DecodeError Instr
  | addr :: cmd :: noz :: xp => decodeNibble cmd (fun cmd => .sndData addr cmd noz xp)
  | ops => .error (operandError 3 ops)

/-- `RX_START`: `addr`, then `total` low byte first. -/
def decodeRxStart : List Byte → Except DecodeError Instr
  | [addr, lo, hi] => .ok (.rxStart addr (wordOf lo hi))
  | ops => .error (operandError 3 ops)

/-- A stimulus from its code and the bytes after it: R86's table; every other code is illegal (R87). -/
def decodeOperands (code : Byte) (ops : List Byte) : Except DecodeError Instr :=
  match code.toNat with
  | 0x00 => decode0 .nop ops
  | 0x10 => decode0 .crcClr ops
  | 0x11 => decode1 .crcUpd ops
  | 0x12 => decode0 .crcRd ops
  | 0x13 => .ok (.crcBlk ops)
  | 0x14 => .ok (.crcChk ops)
  | 0x20 => decode1 .bldPoll ops
  | 0x21 => decodeAddrTx .bldAck ops
  | 0x22 => decodeAddrTx .bldNack ops
  | 0x23 => decodeBldData ops
  | 0x24 => decodeSndData ops
  | 0x30 => .ok (.decFrame ops)
  | 0x40 => decodeRxStart ops
  | 0x41 => decode1 .rxByte ops
  | 0x42 => decode0 .rxTick ops
  | 0x43 => decode0 .rxRd ops
  | 0x50 => decode1 .unpCtrl ops
  | 0x51 => decode1 .unpOpc ops
  | 0x52 => decode1 .unpStat ops
  | 0x53 => .ok (.bcdConv ops)
  | 0x60 => decode0 .txnRd ops
  | 0x61 => decode0 .txnAdv ops
  | 0x62 => decode0 .txnTake ops
  | 0xFF => decode0 .reset ops
  | _ => .error (.illegalCode code)

/-- A stimulus: its code is the first byte. -/
def decodeStimulus : List Byte → Except DecodeError Instr
  | [] => .error .empty
  | code :: ops => decodeOperands code ops

/-- The bytes of a wire frame (R71, R72); empty for what is no frame row. -/
def frameBytes : Instr → List Byte
  | .framePoll addr => shortFrame addr pollControl
  | .frameAck addr tx3 => shortFrame addr (wireControl tx3 Config.ccAck)
  | .frameNack addr tx3 => shortFrame addr (wireControl tx3 Config.ccNack)
  | .frameData addr tx3 opc xp => dataFrame addr (wireControl tx3 Config.ccData) opc xp
  | _ => []

/-- The frame row a byte sequence could be, by the low nibble of byte 1 and the length (R79). -/
def frameCandidate (bytes : List Byte) : Option Instr :=
  match bytes with
  | [addr, control, _] =>
    match (ctrlCode control).toNat with
    | 1 => some (.framePoll addr)
    | 2 => some (.frameAck addr (ctrlTx3 control))
    | 3 => some (.frameNack addr (ctrlTx3 control))
    | _ => none
  | addr :: control :: _ :: opc :: rest =>
    some (.frameData addr (ctrlTx3 control) opc (rest.take (rest.length - 4)))
  | _ => none

/-- A byte sequence on the wire: the frame row whose bytes it is exactly, else `DEC_FRAME` of the same bytes, since "any byte sequence
may be given" to the decoder (42_decoder.md; R79's rows UNKNOWN and Unparseable). Log 3. -/
def decodeWire (bytes : List Byte) : Instr :=
  match frameCandidate bytes with
  | some i => if i.wellFormed ∧ frameBytes i = bytes then i else .decFrame bytes
  | none => .decFrame bytes

/-- One byte of a layout. -/
def decodeByte (f : Byte → Instr) : List Byte → Except DecodeError Instr
  | [] => .error .empty
  | [b] => .ok (f b)
  | _ => .error .trailingOperands

/-- The decoder: total on any input. -/
def decode (inp : Input) : Except DecodeError Instr :=
  match inp.space with
  | .stimulus => decodeStimulus inp.bytes
  | .wire => .ok (decodeWire inp.bytes)
  | .control => decodeByte (fun b => .fieldControl (b.extractLsb' 7 1) (ctrlTx3 b) (ctrlCode b)) inp.bytes
  | .opc => decodeByte (fun b => .fieldOpc (hiNibble b) (loNibble b)) inp.bytes
  | .status =>
    decodeByte (fun b => .fieldStatus (b.extractLsb' 7 1) (b.extractLsb' 6 1) (b.extractLsb' 5 1) (b.extractLsb' 4 1) (loNibble b))
      inp.bytes

/-- The operand bytes of a stimulus, in R86's operand order (log 2): scalars one byte each, `total` low byte first, a byte
sequence last. -/
def operandBytes : Instr → List Byte
  | .crcUpd b | .rxByte b => [b]
  | .crcBlk bytes | .crcChk bytes | .decFrame bytes | .bcdConv bytes => bytes
  | .bldPoll addr => [addr]
  | .bldAck addr tx | .bldNack addr tx => [addr, nibbleByte tx]
  | .bldData addr cmd noz tx xp => [addr, nibbleByte cmd, noz, nibbleByte tx] ++ xp
  | .sndData addr cmd noz xp => [addr, nibbleByte cmd, noz] ++ xp
  | .rxStart addr total => [addr, lowByte total, highByte total]
  | .unpCtrl c => [c]
  | .unpOpc o => [o]
  | .unpStat st => [st]
  | .nop | .crcClr | .crcRd | .rxTick | .rxRd | .txnRd | .txnAdv | .txnTake | .reset => []
  | .framePoll _ | .frameAck _ _ | .frameNack _ _ | .frameData _ _ _ _ => []
  | .fieldControl _ _ _ | .fieldOpc _ _ | .fieldStatus _ _ _ _ _ => []

/-- The encoder: the input that carries an instruction. -/
def encode (i : Instr) : Input :=
  match stimulusCode i with
  | some code => { space := .stimulus, bytes := code :: operandBytes i }
  | none =>
    match i with
    | .fieldControl m t c => { space := .control, bytes := [packControl m t c] }
    | .fieldOpc h n => { space := .opc, bytes := [packOpc h n] }
    | .fieldStatus u e f n code => { space := .status, bytes := [packStatus u e f n code] }
    | _ => { space := .wire, bytes := frameBytes i }

/-- The bytes of a word numbered as the opcode table numbers it: byte `k` is bits `8k+7` to `8k`. -/
def wordBytes : Nat → Nat → List Byte
  | 0, _ => []
  | n + 1, w => BitVec.ofNat 8 w :: wordBytes n (w / 256)

/-- The frame that a table row's control byte (byte 1 of the frame) stands for, with every operand zero: address 0, `opc` 0, no extra
payload; `length`, CRC, ETX and STOP_FLAG are the format's (R71, R72). Log 8. -/
def frameOfControl (control : Byte) : Option (List Byte) :=
  if control = pollControl then some (frameBytes (.framePoll 0))
  else if ctrlMaster control then
    match (ctrlCode control).toNat with
    | 2 => some (frameBytes (.frameAck 0 (ctrlTx3 control)))
    | 3 => some (frameBytes (.frameNack 0 (ctrlTx3 control)))
    | 4 => some (frameBytes (.frameData 0 (ctrlTx3 control) 0 []))
    | _ => none
  else none

/-- The input that an opcode-table word stands for (log 8): a stimulus code of R86 with its operand bytes, those above `nbits` zero; else
a wire frame's control byte; else the bytes as a stimulus, which the decoder refuses (R87). -/
def tableInput (nbits w : Nat) : Input :=
  match wordBytes (nbits / 8) w with
  | [] => { space := .stimulus, bytes := [] }
  | code :: rest =>
    match operandShape code.toNat with
    | some (need, _) =>
      { space := .stimulus, bytes := code :: (rest ++ List.replicate (need - rest.length) 0) }
    | none =>
      match frameOfControl code with
      | some bytes => { space := .wire, bytes := bytes }
      | none => { space := .stimulus, bytes := code :: rest }

/-- The instruction the decoder reads from a word of the opcode table; `none` where it refuses. -/
def decodeTableWord (nbits w : Nat) : Option Instr :=
  match decode (tableInput nbits w) with
  | .ok i => some i
  | .error _ => none

end Sys2Proof
end

