-- ==== Sys2Proof/Machine/State.lean ====
section
/-! DEFINITION. The state of UNG5-CORE: the twelve architectural elements of R21 as one record, the values stimuli return, and
beside them the configuration of the instance and the two ports that the host's form of a machine needs (log 1). -/

namespace Sys2Proof.Machine

/-- `rx_state` (R21 S2, R27). -/
inductive RxState where
  | idle
  | active
  | done
  deriving DecidableEq, Repr

/-- The encodings of `rx_state`: IDLE=0, ACTIVE=1, DONE=2 (R21). -/
def RxState.code : RxState → BitVec 2
  | .idle => 0
  | .active => 1
  | .done => 2

/-- `rx_reason` (R21 S9, R31). -/
inductive RxReason where
  | none
  | totalTimeout
  | silence
  | stopConfirmed
  | noiseCollapsed
  | overflow
  deriving DecidableEq, Repr

/-- The encodings of `rx_reason`: NONE=0 to OVERFLOW=5 (R21). -/
def RxReason.code : RxReason → BitVec 3
  | .none => 0
  | .totalTimeout => 1
  | .silence => 2
  | .stopConfirmed => 3
  | .noiseCollapsed => 4
  | .overflow => 5

/-- The names of the failure codes (R231). -/
inductive ErrName where
  | ok
  | transportUnavailable
  | writeFailure
  | noResponse
  | malformedFrame
  | unsupportedResponseType
  | lengthOverflow
  | busy
  | rxOverflow
  | illegalStimulus
  | badOperand
  deriving DecidableEq, Repr

/-- The failure codes of R231, as `err_code` holds them. -/
def ErrName.code : ErrName → Nibble
  | .ok => 0
  | .transportUnavailable => 1
  | .writeFailure => 2
  | .noResponse => 3
  | .malformedFrame => 4
  | .unsupportedResponseType => 5
  | .lengthOverflow => 6
  | .busy => 7
  | .rxOverflow => 8
  | .illegalStimulus => 9
  | .badOperand => 10

/-- A failure that a stimulus returns in place of its result, with the information R231 gives it. NoResponse and MalformedFrame are
not among them: there the stimulus returns its result, and only `err_code` says so (R184, R160, R210). -/
inductive Failure where
  /-- R127: `len(xp)` > 254; the offending length. -/
  | lengthOverflow (len : Nat)
  /-- R172: `RX_START` while ACTIVE. -/
  | busy
  /-- R174: the append filled `RXBUF`. -/
  | rxOverflow
  /-- R87: a code outside R86; the code. -/
  | illegalStimulus (code : Byte)
  /-- R183, R210: an operand outside its legal range; the operand. -/
  | badOperand (operand : Nat)
  deriving DecidableEq, Repr

/-- The name of a failure (R231). -/
def Failure.name : Failure → ErrName
  | .lengthOverflow _ => .lengthOverflow
  | .busy => .busy
  | .rxOverflow => .rxOverflow
  | .illegalStimulus _ => .illegalStimulus
  | .badOperand _ => .badOperand

/-- `kind` of `UNP_CTRL` (R202): the names of the control codes. -/
inductive CtrlKind where
  | poll
  | ack
  | nack
  | data
  | ackPoll
  | unnamed
  deriving DecidableEq, Repr

/-- `class` of a SHORT record (R153). -/
inductive FrameClass where
  | poll
  | ack
  | nack
  | unknown
  deriving DecidableEq, Repr

/-- `why` of an UNPARSEABLE record (R152, R161). -/
inductive Why where
  | cls
  | span
  | crc
  | length
  deriving DecidableEq, Repr

/-- The SHORT record (R152). -/
structure ShortRecord where
  address : Byte
  control : Byte
  masterFlag : Bool
  tx3 : BitVec 3
  code : Nibble
  cls : FrameClass
  stopOk : Bool
  addrOk : Bool
  deriving DecidableEq, Repr

/-- The DATA record (R152). -/
structure DataRecord where
  address : Byte
  control : Byte
  masterFlag : Bool
  tx3 : BitVec 3
  code : Nibble
  length : Byte
  opc : Byte
  opcHi : Nibble
  nozzle : Nibble
  payload : List Byte
  crc : Word16
  etxOk : Bool
  stopPresent : Bool
  addrOk : Bool
  deriving DecidableEq, Repr

/-- What `DEC_FRAME` returns (R152): exactly one of three kinds of record. -/
inductive Decoded where
  | short (f : ShortRecord)
  | data (f : DataRecord)
  | unparseable (raw : List Byte) (why : Why)
  deriving DecidableEq, Repr

/-- What a stimulus returns (R86, `return v` of R10). A result is a value, not state of the block (R20, R34). -/
inductive Result where
  /-- "none" of R86. -/
  | noResult
  /-- `CRC_RD` (R105): `crc`, `crcLo`, `crcHi`. -/
  | crcRead (crc : Word16) (crcLo crcHi : Byte)
  /-- `CRC_BLK` (R106). -/
  | crcBlock (crc : Word16)
  /-- `CRC_CHK` (R107): `ok`, residue. -/
  | crcCheck (ok : Bool) (residue : Word16)
  /-- `BLD_*` (R120): the frame and `addr_ok`. -/
  | frame (bytes : List Byte) (addrOk : Bool)
  /-- `SND_DATA` (R128): the frame, `addr_ok` and the transaction number used. -/
  | sent (bytes : List Byte) (addrOk : Bool) (t : Nibble)
  /-- `DEC_FRAME` (R151). -/
  | decoded (record : Decoded)
  /-- `RX_RD` (R184): `rx_state`, `rx_reason`, `RXBUF[0 : rx_len]`. -/
  | received (state : RxState) (reason : RxReason) (bytes : List Byte)
  /-- `UNP_CTRL` (R201). -/
  | control (masterFlag : Bool) (tx3 : BitVec 3) (code : Nibble) (kind : CtrlKind)
  /-- `UNP_OPC` (R203). -/
  | opc (hi nozzle : Nibble)
  /-- `UNP_STAT` (R204). -/
  | status (statusCode : Nibble) (nozzleOn rfTagSensed errorFlag : Bool)
  /-- `BCD_CONV` (R210). -/
  | bcd (value : Nat) (valid : Bool)
  /-- `TXN_RD` (R220) and `TXN_TAKE` (R222): a transaction number. -/
  | txn (t : Nibble)
  /-- `RX_BYTE` offered while `rx_ready` is false (R173): the stimulus does not happen, the byte stays with the transport (log 4). -/
  | notTaken (b : Byte)
  /-- The stimulus returned a failure (R230, R231). -/
  | failed (f : Failure)
  deriving DecidableEq, Repr

/-- The architectural state: exactly the twelve elements of R21. `rx_len` and `tx_len` are the lengths of the two buffers, as R51
suggests: an index at or beyond them holds no value (log 9). -/
structure Arch where
  /-- S0 `crc` (R25) -/
  crc : Word16
  /-- S1 `txn` (R26) -/
  txn : Nibble
  /-- S2 `rx_state` (R27) -/
  rxState : RxState
  /-- S3 and S4, `rx_len` and `RXBUF` (R30) -/
  rxbuf : List Byte
  /-- S5 `rx_addr` (R29) -/
  rxAddr : Byte
  /-- S6 `rx_total` (R29) -/
  rxTotal : Word16
  /-- S7 `t_total` (R28) -/
  tTotal : Word16
  /-- S8 `t_silence` (R28) -/
  tSilence : Word16
  /-- S9 `rx_reason` (R31) -/
  rxReason : RxReason
  /-- S10 `tx_len` and `TXBUF` (R32) -/
  txbuf : List Byte
  /-- S11 `err_code` (R33) -/
  errCode : Nibble
  deriving DecidableEq, Repr

/-- The reset values of R21, R37 and R260. -/
def Arch.reset : Arch :=
  { crc := 0x0000
    txn := 1
    rxState := .idle
    rxbuf := []
    rxAddr := 0x00
    rxTotal := 0
    tTotal := 0
    tSilence := 0
    rxReason := .none
    txbuf := []
    errCode := 0 }

/-- The machine: the block's architectural state `arch`, its configuration `cfg` (R34: fixed for the life of an instance), and the
model's two ports, which are no state of the block: the inputs the environment offers next, and what the last stimulus returned
(log 1). -/
structure State where
  cfg : Config
  arch : Arch
  pending : List Input
  result : Result
  deriving DecidableEq, Repr

/-- The machine right after reset (R37, R260), with the default parameters (log 6), no input offered and no result returned (log 7). -/
def State.reset : State :=
  { cfg := Config.default, arch := Arch.reset, pending := [], result := .noResult }

/-- Faults: none. "No stimulus traps, throws or halts" (R230); a failure is a result and an `err_code`. That the type is empty is
the safe side: no run of the model is cut short by a fault. -/
inductive Fault where
  deriving DecidableEq, Repr

/-- Why a step gives no next state. -/
inductive Refusal where
  /-- Raised by `exec` for an instruction without a meaning yet; no arm raises it now. Safe: the model stops. -/
  | notModelled (mnemonic : String)
  /-- Raised by `step` for an input that is no stimulus of R86 with its operands and no byte of a layout: bytes missing, left over, or
  too wide for a 4-bit operand (log 5). An illegal stimulus code is not among them: it is a stimulus with an effect (R87). Safe: the
  model stops on inputs the spec does not describe. -/
  | malformedInput (why : DecodeError)
  deriving DecidableEq, Repr

end Sys2Proof.Machine
end

