-- ==== Sys2Proof/Machine/Flags.lean ====
section
/-! DEFINITION. The status outputs of R24, pure functions of the state, and the two length outputs `rx_len`, `tx_len`. -/

namespace Sys2Proof.Machine

/-- `rx_len` (R21 S3): the number of bytes `RXBUF` holds. -/
def Arch.rxLen (a : Arch) : Nat := a.rxbuf.length

/-- `tx_len` (R21 S10). -/
def Arch.txLen (a : Arch) : Nat := a.txbuf.length

/-- `rx_idle` (R24). -/
def Arch.rxIdle (a : Arch) : Bool := decide (a.rxState = .idle)

/-- `rx_active` (R24). -/
def Arch.rxActive (a : Arch) : Bool := decide (a.rxState = .active)

/-- `rx_done` (R24, R238). -/
def Arch.rxDone (a : Arch) : Bool := decide (a.rxState = .done)

/-- `rx_empty` (R24). -/
def Arch.rxEmpty (a : Arch) : Bool := decide (a.rxLen = 0)

/-- `rx_ready` (R24): the block accepts an `RX_BYTE` only while this is true (R173). -/
def Arch.rxReady (a : Arch) : Bool := decide (a.rxState = .active)

/-- Whether a buffer is a candidate frame end: at least 8 bytes, the last of them 0xFA (R24, R178). -/
def candidateEnd (buf : List Byte) : Bool :=
  decide (Config.minDataFrame ≤ buf.length) && decide (buf.getLast? = some Config.stopFlag)

/-- `cand_end` (R24). -/
def Arch.candEnd (a : Arch) : Bool := candidateEnd a.rxbuf

/-- `err` (R24). -/
def Arch.err (a : Arch) : Bool := decide (a.errCode ≠ 0)

end Sys2Proof.Machine
end

