-- ==== Sys2Proof/Machine/Ops.lean ====
section
/-! DEFINITION. The shared operations: how a stimulus ends (R10, R230), the buffers (R50 to R52), and the frame loads of R120. -/

namespace Sys2Proof.Machine

/-! ### How a stimulus ends -/

/-- A stimulus ends with the architectural state `a`, the outcome `e` in `err_code` (R33) and the result `r` (R10 `return v`). -/
def finish (a : Arch) (e : ErrName) (r : Result) (s : State) : State :=
  { s with arch := { a with errCode := e.code }, result := r }

/-- A stimulus succeeds: `err_code <- 0` (R33). -/
def succeed (a : Arch) (r : Result) (s : State) : State := finish a .ok r s

/-- `raise E(info)` (R10, R230): the stimulus returns the failure, `err_code` takes its code, and nothing else changes. Control goes
nowhere; the next stimulus is accepted as after a success (R241). -/
def raiseFailure (f : Failure) (s : State) : State := finish s.arch f.name (.failed f) s

/-- A step that leaves the block as it is, `err_code` included (R33: `NOP`, `RX_BYTE` not taken, `RX_TICK` outside ACTIVE). -/
def unchanged (r : Result) (s : State) : State := { s with result := r }

/-- A stimulus code outside R86 (R87): the failure IllegalStimulus with the code. -/
def illegalStimulus (code : Byte) (s : State) : State := raiseFailure (.illegalStimulus code) s

/-! ### Buffers -/

/-- `MemRead(RXBUF + i, 1)`: a byte below `rx_len`, and no value at or beyond it (R30, R51). -/
def Arch.rxRead (a : Arch) (i : Nat) : Option Byte := a.rxbuf[i]?

/-- `MemRead(TXBUF + i, 1)`: a byte below `tx_len`, and no value at or beyond it (R32). -/
def Arch.txRead (a : Arch) (i : Nat) : Option Byte := a.txbuf[i]?

/-- `MemWrite(RXBUF + rx_len, 1, b); rx_len <- rx_len + 1` (R51, R173). -/
def rxAppend (b : Byte) (a : Arch) : Arch := { a with rxbuf := a.rxbuf ++ [b] }

/-- `rx_len <- n` (R30, R176): bytes beyond the new length are forgotten. -/
def rxTruncate (n : Nat) (a : Arch) : Arch := { a with rxbuf := a.rxbuf.take n }

/-- `TXBUF` and `tx_len` take a whole frame at once (R52, R120). -/
def txLoad (frame : List Byte) (a : Arch) : Arch := { a with txbuf := frame }

/-- The buffers' capacities (R21 S3, S10; R36 items 2 and 7): the form of the block's memory. A buffer is a list of exactly the bytes
that hold a value, so equal memories are equal data. -/
abbrev Memory.wf (c : Config) (a : Arch) : Prop := a.rxLen ≤ c.rxCap ∧ a.txLen ≤ Config.txCap

/-! ### What the encoder and the receive state machine share -/

/-- A successful build (R120): the frame goes to `TXBUF`, `err_code <- 0`, the frame and `addr_ok` are returned. -/
def buildFrame (frame : List Byte) (addr : Byte) (s : State) : State :=
  succeed (txLoad frame s.arch) (.frame frame (addrOk addr)) s

/-- A receive ends (R27): DONE, with its reason (R31). -/
def endReceive (r : RxReason) (a : Arch) : Arch := { a with rxState := .done, rxReason := r }

/-- `txn` advances (R221). -/
def advanceTxn (a : Arch) : Arch := { a with txn := txnNext a.txn }

end Sys2Proof.Machine
end

