-- ==== Sys2Proof/Machine/Control.lean ====
section
/-! DEFINITION. `NOP` (R88) and `RESET` (R260). -/

namespace Sys2Proof.Machine

/-- `NOP` (R88): the empty statement; not even `err_code` is written. -/
def execNop (s : State) : Host.Outcome State Fault Refusal := .next (unchanged .noResult s)

/-- `RESET` (R260): every element of R21 takes its reset value; the configuration stays (R263). -/
def execReset (s : State) : Host.Outcome State Fault Refusal :=
  .next { s with arch := Arch.reset, result := .noResult }

end Sys2Proof.Machine
end

