-- ==== Sys2Proof/Machine/Crc.lean ====
section
/-! DEFINITION. U1, the CRC-16 generator: the five stimuli of spec/40_crc.md. -/

namespace Sys2Proof.Machine

/-- `CRC_CLR` (R102). -/
def execCrcClr (s : State) : Host.Outcome State Fault Refusal :=
  .next (succeed { s.arch with crc := Config.crcInit } .noResult s)

/-- `CRC_UPD b` (R103). -/
def execCrcUpd (b : Byte) (s : State) : Host.Outcome State Fault Refusal :=
  .next (succeed { s.arch with crc := crcStep s.arch.crc b } .noResult s)

/-- `CRC_RD` (R105). -/
def execCrcRd (s : State) : Host.Outcome State Fault Refusal :=
  .next (succeed s.arch (.crcRead s.arch.crc (lowByte s.arch.crc) (highByte s.arch.crc)) s)

/-- `CRC_BLK bytes` (R106): neither reads nor writes `crc`. -/
def execCrcBlk (bytes : List Byte) (s : State) : Host.Outcome State Fault Refusal :=
  .next (succeed s.arch (.crcBlock (crc16 bytes)) s)

/-- `CRC_CHK bytes` (R107): a nonzero residue is a result, not a failure. -/
def execCrcChk (bytes : List Byte) (s : State) : Host.Outcome State Fault Refusal :=
  .next (succeed s.arch (.crcCheck (decide (crc16 bytes = 0x0000)) (crc16 bytes)) s)

end Sys2Proof.Machine
end

