-- ==== Sys2Proof/Machine/Decoder.lean ====
section
/-! DEFINITION. U3, the framed-payload decoder (spec/42_decoder.md), and the validity of a status record (R207, R208). -/

namespace Sys2Proof.Machine

/-- `class` of a SHORT frame from its control code (R153, R79): every code but 1, 2, 3 is UNKNOWN. DEDUCED (log 17): R272 infers UNKNOWN
for every noise-collapsed buffer `FA addr 81`, but the low nibble of `addr` is 1, 2 or 3 for 0x51 to 0x53 and 0x61 to 0x63, which R153
names POLL, ACK and NACK; R153 is followed. -/
def frameClass (code : Nibble) : FrameClass :=
  match code.toNat with
  | 1 => .poll
  | 2 => .ack
  | 3 => .nack
  | _ => .unknown

/-- The SHORT record of three bytes (R152, R153). -/
def shortRecord (address control third : Byte) : ShortRecord :=
  { address := address
    control := control
    masterFlag := ctrlMaster control
    tx3 := ctrlTx3 control
    code := ctrlCode control
    cls := frameClass (ctrlCode control)
    stopOk := decide (third = Config.stopFlag)
    addrOk := addrOk address }

/-- `T` (R154): how many bytes follow the CRC, by the last byte alone. -/
def tailLength (bytes : List Byte) : Nat :=
  if bytes.getLast? = some Config.stopFlag then 2 else 1

/-- `S = N - T - 2` (R154): the size of the data span. -/
def spanLength (bytes : List Byte) : Nat := bytes.length - tailLength bytes - 2

/-- The DATA record of a sequence that passed the four tests (R152, R159). -/
def dataRecord (bytes : List Byte) : DataRecord :=
  let control := byteAt bytes 1
  let length := byteAt bytes 2
  let opc := byteAt bytes 3
  let n := spanLength bytes
  { address := byteAt bytes 0
    control := control
    masterFlag := ctrlMaster control
    tx3 := ctrlTx3 control
    code := ctrlCode control
    length := length
    opc := opc
    opcHi := hiNibble opc
    nozzle := loNibble opc
    payload := slice bytes 4 (3 + length.toNat)
    crc := wordOf (byteAt bytes n) (byteAt bytes (n + 1))
    etxOk := decide (byteAt bytes (n + 2) = Config.etx)
    stopPresent := decide (tailLength bytes = 2)
    addrOk := addrOk (byteAt bytes 0) }

/-- The decoder (R151): tests in the order CLASS, SPAN, CRC, LENGTH (R161), the CRC by the zero residue alone (R110, R157). -/
def decodeFrame (bytes : List Byte) : Decoded :=
  if bytes.length = Config.shortLen then
    .short (shortRecord (byteAt bytes 0) (byteAt bytes 1) (byteAt bytes 2))
  else if bytes.length < Config.decMinLen ∨ ctrlCode (byteAt bytes 1) ≠ Config.ccData then .unparseable bytes .cls
  else if spanLength bytes < 4 then .unparseable bytes .span
  else if crc16 (bytes.take (spanLength bytes + 2)) ≠ 0x0000 then .unparseable bytes .crc
  else if (byteAt bytes 2).toNat = 0 ∨ 3 + (byteAt bytes 2).toNat ≠ spanLength bytes then .unparseable bytes .length
  else .data (dataRecord bytes)

/-- The outcome of a decode (R151, R160): MalformedFrame for an UNPARSEABLE record. -/
def Decoded.errName : Decoded → ErrName
  | .short _ => .ok
  | .data _ => .ok
  | .unparseable _ _ => .malformedFrame

/-- A byte sequence is given to the decoder: the record is returned and only `err_code` is written (R150, R160). -/
def decodeSequence (bytes : List Byte) (s : State) : State :=
  finish s.arch (decodeFrame bytes).errName (.decoded (decodeFrame bytes)) s

/-- `DEC_FRAME bytes` (R151). -/
def execDecFrame (bytes : List Byte) (s : State) : Host.Outcome State Fault Refusal :=
  .next (decodeSequence bytes s)

/-! ### Using a decoded record (R207, R208): pure functions, no stimulus calls them -/

/-- `status_valid(f)` (R207). -/
def statusValid : Decoded → Bool
  | .data f => decide (f.opcHi = Config.rtNozzleStatus) && decide (2 ≤ f.payload.length)
  | .short _ => false
  | .unparseable _ _ => false

/-- The status byte of a record (R207, R208): `payload[STATUS_BYTE_INDEX]` when `status_valid` holds. -/
def statusByte (c : Config) : Decoded → Option Byte
  | .data f => if statusValid (.data f) then f.payload[c.statusByteIndex]? else none
  | .short _ => none
  | .unparseable _ _ => none

/-- The failure the user of `status_valid` reports (R207, R235, R236). The spec names none for a SHORT record (log 10). -/
def statusFailure (f : Decoded) : Option ErrName :=
  match f with
  | .data _ => if statusValid f then none else some .unsupportedResponseType
  | .short _ => none
  | .unparseable _ _ => some .malformedFrame

end Sys2Proof.Machine
end

