-- ==== Sys2Proof/Machine/Encoder.lean ====
section
/-! DEFINITION. U2, the frame encoder: the five stimuli of spec/41_encoder.md. -/

namespace Sys2Proof.Machine

/-- `BLD_POLL addr` (R121). -/
def execBldPoll (addr : Byte) (s : State) : Host.Outcome State Fault Refusal :=
  .next (buildFrame (shortFrame addr pollControl) addr s)

/-- `BLD_ACK addr, tx` (R122). -/
def execBldAck (addr : Byte) (tx : Nibble) (s : State) : Host.Outcome State Fault Refusal :=
  .next (buildFrame (shortFrame addr (controlByte tx Config.ccAck)) addr s)

/-- `BLD_NACK addr, tx` (R123). -/
def execBldNack (addr : Byte) (tx : Nibble) (s : State) : Host.Outcome State Fault Refusal :=
  .next (buildFrame (shortFrame addr (controlByte tx Config.ccNack)) addr s)

/-- The DATA frame that `BLD_DATA` and `SND_DATA` build (R124). -/
def builtDataFrame (addr : Byte) (cmd : Nibble) (noz : Byte) (tx : Nibble) (xp : List Byte) : List Byte :=
  dataFrame addr (controlByte tx Config.ccData) (opcByte cmd noz) xp

/-- `BLD_DATA addr, cmd, noz, tx, xp` (R124), refused when `xp` is longer than 254 bytes (R127). -/
def execBldData (addr : Byte) (cmd : Nibble) (noz : Byte) (tx : Nibble) (xp : List Byte) (s : State) :
    Host.Outcome State Fault Refusal :=
  if Config.xpMax < xp.length then .next (raiseFailure (.lengthOverflow xp.length) s)
  else .next (buildFrame (builtDataFrame addr cmd noz tx xp) addr s)

/-- `SND_DATA addr, cmd, noz, xp` (R128): `BLD_DATA` with the session's `txn`, which then advances (R221). A refused one leaves
`txn` (R127). -/
def execSndData (addr : Byte) (cmd : Nibble) (noz : Byte) (xp : List Byte) (s : State) : Host.Outcome State Fault Refusal :=
  if Config.xpMax < xp.length then .next (raiseFailure (.lengthOverflow xp.length) s)
  else
    let frame := builtDataFrame addr cmd noz s.arch.txn xp
    .next (succeed (advanceTxn (txLoad frame s.arch)) (.sent frame (addrOk addr) s.arch.txn) s)

end Sys2Proof.Machine
end

