-- ==== Sys2Proof/Machine/Unpacker.lean ====
section
/-! DEFINITION. U5, the bit-unpacker and the BCD converter (spec/44_unpacker.md). -/

namespace Sys2Proof.Machine

/-- The names of the control codes (R202). -/
def ctrlKind (code : Nibble) : CtrlKind :=
  match code.toNat with
  | 1 => .poll
  | 2 => .ack
  | 3 => .nack
  | 4 => .data
  | 5 => .ackPoll
  | _ => .unnamed

/-- The fields of a control byte (R201). -/
def unpackControl (c : Byte) : Result := .control (ctrlMaster c) (ctrlTx3 c) (ctrlCode c) (ctrlKind (ctrlCode c))

/-- The fields of an `opc` byte (R203). -/
def unpackOpc (o : Byte) : Result := .opc (hiNibble o) (loNibble o)

/-- The fields of a nozzle status byte (R204); bit 7 is not used (R205). -/
def unpackStatus (st : Byte) : Result := .status (loNibble st) (st.getLsbD 4) (st.getLsbD 5) (st.getLsbD 6)

/-- `UNP_CTRL c` (R201). -/
def execUnpCtrl (c : Byte) (s : State) : Host.Outcome State Fault Refusal := .next (succeed s.arch (unpackControl c) s)

/-- `UNP_OPC o` (R203). -/
def execUnpOpc (o : Byte) (s : State) : Host.Outcome State Fault Refusal := .next (succeed s.arch (unpackOpc o) s)

/-- `UNP_STAT st` (R204). -/
def execUnpStat (st : Byte) (s : State) : Host.Outcome State Fault Refusal := .next (succeed s.arch (unpackStatus st) s)

/-- Whether both nibbles of a byte are decimal digits (R210). -/
def bcdDigits (b : Byte) : Bool := decide ((hiNibble b).toNat ≤ 9) && decide ((loNibble b).toNat ≤ 9)

/-- `value * 100 + hi * 10 + lo`, byte by byte, most significant first (R210). -/
def bcdValue (bytes : List Byte) : Nat :=
  bytes.foldl (fun v b => v * 100 + (hiNibble b).toNat * 10 + (loNibble b).toNat) 0

/-- `BCD_CONV bytes` (R210): BadOperand when too long; a nibble above 9 gives `valid` = 0, value 0 and MalformedFrame. -/
def execBcdConv (bytes : List Byte) (s : State) : Host.Outcome State Fault Refusal :=
  if s.cfg.bcdMaxBytes < bytes.length then .next (raiseFailure (.badOperand bytes.length) s)
  else if bytes.all bcdDigits then .next (succeed s.arch (.bcd (bcdValue bytes) true) s)
  else .next (finish s.arch .malformedFrame (.bcd 0 false) s)

/-! ### Records of the status decoder (R206, R207): pure functions, no stimulus calls them -/

/-- `statusCode` names (R206). Only FILLING = 4 has support in the source; the numbering is decision D25 (log 10). -/
inductive NozzleStatus where
  | idle
  | readyForDelivery
  | reset
  | authorized
  | filling
  | paused
  | disabled
  | stopped
  | notProgrammed
  deriving DecidableEq, Repr

/-- The name of a status code (R206); 9 to 15 have none. -/
def nozzleStatusName (code : Nibble) : Option NozzleStatus :=
  match code.toNat with
  | 0 => some .idle
  | 1 => some .readyForDelivery
  | 2 => some .reset
  | 3 => some .authorized
  | 4 => some .filling
  | 5 => some .paused
  | 6 => some .disabled
  | 7 => some .stopped
  | 8 => some .notProgrammed
  | _ => none

/-- The status record of R207: `address`, `nozzleNumber`, and the outputs of `UNP_STAT` on the status byte. -/
structure PumpStatus where
  isValid : Bool
  address : Byte
  nozzleNumber : Nibble
  statusCode : Nibble
  nozzleOn : Bool
  rfTagSensed : Bool
  errorFlag : Bool
  deriving DecidableEq, Repr

/-- The record that is not valid: "`isValid=false` is the zero-value default" (R24, R207). DESIGN CHOICE (log 16): R207 gives the other
fields only when `status_valid` holds; the model sets them all to 0 here, for a DATA record too whose address and nozzle are known. -/
def PumpStatus.invalid : PumpStatus :=
  { isValid := false, address := 0, nozzleNumber := 0, statusCode := 0, nozzleOn := false, rfTagSensed := false, errorFlag := false }

/-- The record of a valid status (R207). -/
def validPumpStatus (f : DataRecord) (st : Byte) : PumpStatus :=
  { isValid := true
    address := f.address
    nozzleNumber := f.nozzle
    statusCode := loNibble st
    nozzleOn := st.getLsbD 4
    rfTagSensed := st.getLsbD 5
    errorFlag := st.getLsbD 6 }

/-- `decode(DecodedFrame) -> PumpStatus` (R207). -/
def pumpStatus (c : Config) (f : Decoded) : PumpStatus :=
  match f, statusByte c f with
  | .data d, some st => validPumpStatus d st
  | _, _ => PumpStatus.invalid

end Sys2Proof.Machine
end

