-- ==== Sys2Proof/Machine/Formats.lean ====
section
/-! DEFINITION. The seven format rows of the opcode table (log 3): a wire frame of R71 or R72 given to the decoder U3 (R79), and a byte of
the layouts R73, R75, R204 given to the unpacker U5. -/

namespace Sys2Proof.Machine

/-- `FRAME_POLL`: `addr, 0x81, 0xFA` (R71) is given to the decoder. -/
def execFramePoll (addr : Byte) (s : State) : Host.Outcome State Fault Refusal :=
  .next (decodeSequence (shortFrame addr pollControl) s)

/-- `FRAME_ACK`: `addr, 1ttt0010, 0xFA` (R71) is given to the decoder. -/
def execFrameAck (addr : Byte) (tx3 : BitVec 3) (s : State) : Host.Outcome State Fault Refusal :=
  .next (decodeSequence (shortFrame addr (wireControl tx3 Config.ccAck)) s)

/-- `FRAME_NACK`: `addr, 1ttt0011, 0xFA` (R71) is given to the decoder. -/
def execFrameNack (addr : Byte) (tx3 : BitVec 3) (s : State) : Host.Outcome State Fault Refusal :=
  .next (decodeSequence (shortFrame addr (wireControl tx3 Config.ccNack)) s)

/-- `FRAME_DATA`: the DATA frame of R72 is given to the decoder. There is no such frame with more than 254 bytes of extra payload:
its length cannot be written (R76, R127), so an ill-formed one is answered as the encoder answers it (log 3). -/
def execFrameData (addr : Byte) (tx3 : BitVec 3) (opc : Byte) (xp : List Byte) (s : State) :
    Host.Outcome State Fault Refusal :=
  if Config.xpMax < xp.length then .next (raiseFailure (.lengthOverflow xp.length) s)
  else .next (decodeSequence (dataFrame addr (wireControl tx3 Config.ccData) opc xp) s)

/-- `FIELD_CONTROL`: the control byte (R73) is given to `UNP_CTRL` (R201). -/
def execFieldControl (m : BitVec 1) (t : BitVec 3) (c : Nibble) (s : State) : Host.Outcome State Fault Refusal :=
  .next (succeed s.arch (unpackControl (packControl m t c)) s)

/-- `FIELD_OPC`: the `opc` byte (R75) is given to `UNP_OPC` (R203). -/
def execFieldOpc (h n : Nibble) (s : State) : Host.Outcome State Fault Refusal :=
  .next (succeed s.arch (unpackOpc (packOpc h n)) s)

/-- `FIELD_STATUS`: the status byte (R204) is given to `UNP_STAT`. -/
def execFieldStatus (u e f n : BitVec 1) (code : Nibble) (s : State) : Host.Outcome State Fault Refusal :=
  .next (succeed s.arch (unpackStatus (packStatus u e f n code)) s)

end Sys2Proof.Machine
end

