-- ==== Sys2Proof/Machine/Receive.lean ====
section
/-! DEFINITION. U4, the byte-level receive state machine (spec/43_receive.md). -/

namespace Sys2Proof.Machine

/-! ### Noise collapsing -/

/-- The noise pattern: exactly the three bytes `0xFA, a, 0x81` (R182, D9). -/
def noisePattern (a : Byte) : List Byte := [Config.stopFlag, a, Config.echoCtrl]

/-- A run: three copies of the pattern back to back, nine bytes (R182). -/
def noiseRun (a : Byte) : List Byte := (List.replicate Config.repeats (noisePattern a)).flatten

/-- The smallest offset, counted from `p`, at which a run starts (R182). -/
def findRun (a : Byte) : List Byte → Nat → Option Nat
  | [], _ => none
  | b :: bs, p => if (noiseRun a).isPrefixOf (b :: bs) then some p else findRun a bs (p + 1)

/-- `collapse(buf, a)` (R182): the new length, 3 if the first run starts at offset 0, else its offset. -/
def collapse (buf : List Byte) (a : Byte) : Option Nat :=
  match findRun a buf 0 with
  | some p => some (if p = 0 then Config.patternLen else p)
  | none => none

/-! ### The four stimuli -/

/-- Whether `total` is a legal operand of `RX_START`: 1 to 65534 (R171, R183). -/
def totalLegal (total : Word16) : Bool := decide (total ≠ 0x0000) && decide (total ≠ 0xFFFF)

/-- A receive opens (R171): the buffer is emptied, both timers cleared. -/
def openReceive (addr : Byte) (total : Word16) (a : Arch) : Arch :=
  { a with
    rxState := .active, rxbuf := [], rxAddr := addr, rxTotal := total, tTotal := 0, tSilence := 0, rxReason := .none }

/-- `RX_START addr, total` (R171); Busy while ACTIVE (R172) before BadOperand (R183). -/
def execRxStart (addr : Byte) (total : Word16) (s : State) : Host.Outcome State Fault Refusal :=
  if s.arch.rxState = .active then .next (raiseFailure .busy s)
  else if totalLegal total then .next (succeed (openReceive addr total s.arch) .noResult s)
  else .next (raiseFailure (.badOperand total.toNat) s)

/-- An accepted byte is appended and the silence timer cleared (R173, R175). -/
def takeByte (b : Byte) (a : Arch) : Arch := { rxAppend b a with tSilence := 0 }

/-- An accepted `RX_BYTE` (R173): append, then the noise rule (R176), then overflow (R174). -/
def acceptByte (b : Byte) (s : State) : State :=
  let a := takeByte b s.arch
  match collapse a.rxbuf a.rxAddr with
  | some r => succeed (endReceive .noiseCollapsed (rxTruncate r a)) .noResult s
  | none =>
    if a.rxLen = s.cfg.rxCap then finish (endReceive .overflow a) .rxOverflow (.failed .rxOverflow) s
    else succeed a .noResult s

/-- `RX_BYTE b` (R173). Outside ACTIVE the stimulus does not happen: nothing of the block changes and the byte stays with the
transport (log 4). -/
def execRxByte (b : Byte) (s : State) : Host.Outcome State Fault Refusal :=
  if s.arch.rxReady then .next (acceptByte b s) else .next (unchanged (.notTaken b) s)

/-- Both timers count a tick (R177). -/
def countTick (a : Arch) : Arch := { a with tTotal := a.tTotal + 1, tSilence := a.tSilence + 1 }

/-- The first of the three tick conditions that holds, with the timers already counted (R177 to R179, order R181). -/
def tickReason (c : Config) (a : Arch) : Option RxReason :=
  if a.rxTotal < a.tTotal then some .totalTimeout
  else if a.candEnd ∧ c.confirmTicks ≤ a.tSilence.toNat then some .stopConfirmed
  else if 1 ≤ a.rxLen ∧ c.quietTicks ≤ a.tSilence.toNat then some .silence
  else none

/-- A tick while ACTIVE (R177). -/
def activeTick (s : State) : State :=
  let a := countTick s.arch
  match tickReason s.cfg a with
  | some r => succeed (endReceive r a) .noResult s
  | none => succeed a .noResult s

/-- `RX_TICK` (R177); outside ACTIVE it changes nothing, not even `err_code` (R180). -/
def execRxTick (s : State) : Host.Outcome State Fault Refusal :=
  if s.arch.rxState = .active then .next (activeTick s) else .next (unchanged .noResult s)

/-- `RX_RD` (R184): NoResponse for an empty buffer in DONE. -/
def execRxRd (s : State) : Host.Outcome State Fault Refusal :=
  .next
    (finish s.arch (if s.arch.rxState = .done ∧ s.arch.rxLen = 0 then .noResponse else .ok)
      (.received s.arch.rxState s.arch.rxReason s.arch.rxbuf) s)

end Sys2Proof.Machine
end

