-- ==== Sys2Proof/Machine/Sequencer.lean ====
section
/-! DEFINITION. U6, the transaction-number sequencer (spec/45_sequencer.md). -/

namespace Sys2Proof.Machine

/-- `TXN_RD` (R220). -/
def execTxnRd (s : State) : Host.Outcome State Fault Refusal := .next (succeed s.arch (.txn s.arch.txn) s)

/-- `TXN_ADV` (R221). -/
def execTxnAdv (s : State) : Host.Outcome State Fault Refusal := .next (succeed (advanceTxn s.arch) .noResult s)

/-- `TXN_TAKE` (R222): use, then advance. -/
def execTxnTake (s : State) : Host.Outcome State Fault Refusal :=
  .next (succeed (advanceTxn s.arch) (.txn s.arch.txn) s)

end Sys2Proof.Machine
end

