-- ==== Sys2Proof/Machine/Dispatch.lean ====
section
/-! DEFINITION. One arm per instruction. -/

namespace Sys2Proof.Machine

def exec (i : Instr) (s : State) : Host.Outcome State Fault Refusal :=
  match i with
  | .nop => Sys2Proof.Machine.execNop s
  | .crcClr => Sys2Proof.Machine.execCrcClr s
  | .crcUpd b => Sys2Proof.Machine.execCrcUpd b s
  | .crcRd => Sys2Proof.Machine.execCrcRd s
  | .crcBlk bytes => Sys2Proof.Machine.execCrcBlk bytes s
  | .crcChk bytes => Sys2Proof.Machine.execCrcChk bytes s
  | .bldPoll addr => Sys2Proof.Machine.execBldPoll addr s
  | .bldAck addr tx => Sys2Proof.Machine.execBldAck addr tx s
  | .bldNack addr tx => Sys2Proof.Machine.execBldNack addr tx s
  | .bldData addr cmd noz tx xp => Sys2Proof.Machine.execBldData addr cmd noz tx xp s
  | .sndData addr cmd noz xp => Sys2Proof.Machine.execSndData addr cmd noz xp s
  | .decFrame bytes => Sys2Proof.Machine.execDecFrame bytes s
  | .rxStart addr total => Sys2Proof.Machine.execRxStart addr total s
  | .rxByte b => Sys2Proof.Machine.execRxByte b s
  | .rxTick => Sys2Proof.Machine.execRxTick s
  | .rxRd => Sys2Proof.Machine.execRxRd s
  | .unpCtrl c => Sys2Proof.Machine.execUnpCtrl c s
  | .unpOpc o => Sys2Proof.Machine.execUnpOpc o s
  | .unpStat st => Sys2Proof.Machine.execUnpStat st s
  | .bcdConv bytes => Sys2Proof.Machine.execBcdConv bytes s
  | .txnRd => Sys2Proof.Machine.execTxnRd s
  | .txnAdv => Sys2Proof.Machine.execTxnAdv s
  | .txnTake => Sys2Proof.Machine.execTxnTake s
  | .reset => Sys2Proof.Machine.execReset s
  | .framePoll addr => Sys2Proof.Machine.execFramePoll addr s
  | .frameAck addr tx3 => Sys2Proof.Machine.execFrameAck addr tx3 s
  | .frameNack addr tx3 => Sys2Proof.Machine.execFrameNack addr tx3 s
  | .frameData addr tx3 opc xp => Sys2Proof.Machine.execFrameData addr tx3 opc xp s
  | .fieldControl m t c => Sys2Proof.Machine.execFieldControl m t c s
  | .fieldOpc h n => Sys2Proof.Machine.execFieldOpc h n s
  | .fieldStatus u e f n code => Sys2Proof.Machine.execFieldStatus u e f n code s

end Sys2Proof.Machine
end

