-- ==== Sys2Proof/Machine/Fetch.lean ====
section
/-! DEFINITION. How the next input is taken and performed (R11, R59, R87). -/

namespace Sys2Proof.Machine

/-- One input is performed. One that decodes runs its meaning, an illegal stimulus code has the effect of R87, and an input that is
nothing of the spec is refused (log 5). -/
def runInput (inp : Input) (s : State) : Host.Outcome State Fault Refusal :=
  match decode inp with
  | .ok i => exec i s
  | .error (.illegalCode code) => .next (illegalStimulus code s)
  | .error why => .refused (.malformedInput why)

/-- The next input the environment offers is taken and performed. With none offered the block is quiescent and keeps all its state
(R248, log 7). -/
def takeInput (s : State) : Host.Outcome State Fault Refusal :=
  match s.pending with
  | [] => .next s
  | inp :: rest => runInput inp { s with pending := rest }

/-- An input is offered before all others. -/
def offer (inp : Input) (s : State) : State := { s with pending := inp :: s.pending }

end Sys2Proof.Machine
end

