-- ==== Sys2Proof/Machine/Step.lean ====
section
/-! DEFINITION. One step of the machine, and the placing of a word of the opcode table as its next input. -/

namespace Sys2Proof.Machine

/-- One step: one stimulus, performed atomically (R11, R59). -/
def step (s : State) : Host.Outcome State Fault Refusal := takeInput s

/-- `s` with the instruction of an opcode-table word offered as the very next input (log 7, log 8). -/
def State.withFetchWord (s : State) (nbits w : Nat) : State := offer (tableInput nbits w) s

end Sys2Proof.Machine
end

