-- ==== Sys2Proof/Safety.lean ====
section
/-! DEFINITION. What claims speak of: runs of several stimuli, the outcome a result carries, and the invariants of R36. -/

namespace Sys2Proof.Machine

/-- A list of instructions performed in order, stopping at the first fault or refusal (R23: a program of this block is a finite list of
stimuli applied in order). -/
def execAll : List Instr → State → Host.Outcome State Fault Refusal
  | [], s => .next s
  | i :: is, s =>
    match exec i s with
    | .next t => execAll is t
    | .fault r => .fault r
    | .refused r => .refused r

/-- The outcome a result carries (R33, R231): the failure of a failed stimulus; MalformedFrame for an UNPARSEABLE record (R160) and an
invalid BCD sequence (R210); NoResponse for an empty buffer read in DONE (R184); OK otherwise. -/
def Result.errName : Result → ErrName
  | .failed f => f.name
  | .decoded (.unparseable _ _) => .malformedFrame
  | .bcd _ false => .malformedFrame
  | .received .done _ [] => .noResponse
  | .decoded (.short _) | .decoded (.data _) | .bcd _ true | .received .done _ (_ :: _) => .ok
  | .received .idle _ _ | .received .active _ _ => .ok
  | .noResult | .crcRead _ _ _ | .crcBlock _ | .crcCheck _ _ | .frame _ _ | .sent _ _ _ => .ok
  | .control _ _ _ _ | .opc _ _ | .status _ _ _ _ | .txn _ | .notTaken _ => .ok

/-- An instruction that leaves `err_code` alone in a state (R33): `NOP`, `RX_BYTE` while `rx_ready` is false, `RX_TICK` outside
ACTIVE. -/
def keepsErrCode (i : Instr) (a : Arch) : Bool :=
  match i with
  | .nop => true
  | .rxByte _ => !a.rxReady
  | .rxTick => !a.rxActive
  | _ => false

/-- A run of three noise patterns stands at offset `p` of `buf`, byte by byte as R182 writes it. -/
def NoiseRunAt (a : Byte) (buf : List Byte) (p : Nat) : Prop :=
  ∀ k < 3, buf[p + 3 * k]? = some 0xFA ∧ buf[p + 3 * k + 1]? = some a ∧ buf[p + 3 * k + 2]? = some 0x81

/-- The invariants of R36, items 1 to 7, and with them the bounds of R28, R29, R174, R184 and R231 that make them inductive. -/
structure Arch.Inv (c : Config) (a : Arch) : Prop where
  /-- R36 item 1 -/
  txn_range : 1 ≤ a.txn.toNat ∧ a.txn.toNat ≤ 15
  /-- R36 item 2 -/
  rx_len_le : a.rxLen ≤ c.rxCap
  /-- R36 item 3 -/
  idle_empty : a.rxState = .idle → a.rxLen = 0 ∧ a.rxReason = .none
  /-- R36 item 4 -/
  active_timers : a.rxState = .active → a.rxReason = .none ∧ a.tTotal ≤ a.rxTotal ∧ a.tSilence ≤ a.tTotal
  /-- R36 item 5 -/
  done_reason : a.rxState = .done → a.rxReason ≠ .none
  /-- R36 item 6: no three consecutive repeats of the noise pattern start anywhere in `RXBUF`. -/
  active_no_run : a.rxState = .active → ∀ p, ¬ NoiseRunAt a.rxAddr a.rxbuf p
  /-- R36 item 7 -/
  tx_len_range : a.txLen = 0 ∨ a.txLen = 3 ∨ (8 ≤ a.txLen ∧ a.txLen ≤ 262)
  /-- R36 item 7 -/
  tx_last : a.txLen ≠ 0 → a.txRead (a.txLen - 1) = some Config.stopFlag
  /-- R174: `rx_len` < `RX_CAP` whenever ACTIVE. -/
  active_room : a.rxState = .active → a.rxLen < c.rxCap
  /-- R29: legal values of `rx_total` in a receive. -/
  active_total : a.rxState = .active → 1 ≤ a.rxTotal.toNat ∧ a.rxTotal.toNat ≤ 65534
  /-- R28: `t_total` stops at `rx_total + 1` at the latest. -/
  done_timers : a.rxState = .done → a.tTotal.toNat ≤ a.rxTotal.toNat + 1 ∧ a.tSilence ≤ a.tTotal
  /-- R184: an empty buffer in DONE comes from the total timeout alone. -/
  done_empty : a.rxState = .done → a.rxLen = 0 → a.rxReason = .totalTimeout
  /-- R231: codes 11 to 15 are never written. -/
  err_range : a.errCode.toNat ≤ 10

/-- The invariant of a machine whose configuration meets R7's constraints. -/
structure State.Inv (s : State) : Prop where
  cfg_valid : s.cfg.Valid
  arch_inv : s.arch.Inv s.cfg

end Sys2Proof.Machine
end

