-- ==== Sys2Proof/Certificates/Slice0/Obligations.lean ====
section
/-! DEFINITION. The statements for the provers. A number is written as the spec writes it, so that a statement does not lean on the
definition it is about. -/

open Sys2Proof Sys2Proof.Machine

/-! ### Inputs and encodings -/

/-- When the next input decodes to a well-formed instruction, a step is that instruction's meaning on the state without that input
(R11, R59). That inputs stand in a list is the model's choice (log 1). -/
def Obligations.StepRunsTheDecodedInstruction : Prop :=
  ∀ (s : State) (inp : Input) (rest : List Input) (i : Instr),
    s.pending = inp :: rest → decode inp = .ok i → i.wellFormed = true → step s = exec i { s with pending := rest }

/-- With no input offered the block keeps all its state (R248). That such a step is a next state is the model's choice (log 7). -/
def Obligations.BlockIsQuiescentWithoutInput : Prop :=
  ∀ s : State, s.pending = [] → step s = .next s

/-- A stimulus code outside R86 writes 9 to `err_code`, returns IllegalStimulus with the code and changes nothing else (R87),
whatever bytes follow the code. -/
def Obligations.IllegalCodeOnlyWritesErrCode : Prop :=
  ∀ (s : State) (code : Byte) (ops : List Byte) (rest : List Input),
    s.pending = { space := .stimulus, bytes := code :: ops } :: rest →
    code ∉ ([0x00, 0x10, 0x11, 0x12, 0x13, 0x14, 0x20, 0x21, 0x22, 0x23, 0x24, 0x30, 0x40, 0x41, 0x42, 0x43, 0x50, 0x51, 0x52, 0x53,
      0x60, 0x61, 0x62, 0xFF] : List Byte) →
    step s = .next { s with
      pending := rest, arch := { s.arch with errCode := 9 }, result := .failed (.illegalStimulus code) }

/-- The machine stops on nothing but an input that is no stimulus and no byte of a layout (the model's choice, log 5); an illegal
stimulus code does not stop it (R87), and no stimulus does (R230). -/
def Obligations.OnlyMalformedInputsAreRefused : Prop :=
  ∀ (s : State) (r : Refusal),
    step s = .refused r ↔
      ∃ inp rest why, s.pending = inp :: rest ∧ decode inp = .error why ∧ (∀ code, why ≠ .illegalCode code) ∧
        r = .malformedInput why

/-- Decoding the encoding of a well-formed instruction gives the instruction back, with every operand at every value. The layout of
operands is the model's (log 2). -/
def Obligations.DecodeOfEncodeIsTheInstruction : Prop :=
  ∀ i : Instr, i.wellFormed = true → decode (encode i) = .ok i

/-- What decodes is well formed, and outside the wire space its encoding is the input it came from: no bit is dropped (log 2, log 3). -/
def Obligations.EncodeOfDecodeIsTheInput : Prop :=
  ∀ (inp : Input) (i : Instr), decode inp = .ok i →
    i.wellFormed = true ∧ (inp.space ≠ .wire → encode i = inp) ∧
      (inp.space = .wire → encode i = inp ∨ i = .decFrame inp.bytes)

/-- A few words of the opcode table, written out from its patterns: stimulus codes (R86) and control bytes of wire frames (R74, R79).
That a word is read as an input, a control byte standing for the frame with address 0, `opc` 0 and no payload, is the model's choice (log
8), and so is the layout of the operand bytes in the words of `RX_START`, `BLD_ACK` and `CRC_UPD` (log 2). -/
def Obligations.TableWordsDecodeToTheirRows : Prop :=
  decodeTableWord 8 0x00 = some .nop ∧ decodeTableWord 8 0x12 = some .crcRd ∧ decodeTableWord 16 0x5211 = some (.crcUpd 0x52) ∧
    decodeTableWord 32 0x01F45040 = some (.rxStart 0x50 500) ∧ decodeTableWord 24 0x015021 = some (.bldAck 0x50 1) ∧
    decodeTableWord 8 0x62 = some .txnTake ∧ decodeTableWord 8 0xFF = some .reset ∧
    decodeTableWord 8 0x81 = some (.framePoll 0) ∧ decodeTableWord 8 0x92 = some (.frameAck 0 1) ∧
    decodeTableWord 8 0xF3 = some (.frameNack 0 7) ∧ decodeTableWord 8 0xC4 = some (.frameData 0 4 0 []) ∧
    decodeTableWord 8 0x99 = none

/-- A byte sequence offered on the wire has the effect of `DEC_FRAME` of its bytes, whichever frame row it is (R79, R151); that the
frame rows are instructions is the model's reading (log 3). -/
def Obligations.WireInputsActAsDecFrame : Prop :=
  ∀ (bytes : List Byte) (i : Instr) (s : State),
    decode { space := .wire, bytes := bytes } = .ok i → exec i s = exec (.decFrame bytes) s

/-- Every frame the encoder builds is a frame row of the table, byte for byte, with the three low bits of the transaction number
(R71, R72, R74, R79). That a frame row is an input of the wire space is the model's choice (log 3). -/
def Obligations.BuiltFramesAreTheWireRows : Prop :=
  ∀ (s : State) (addr : Byte) (cmd : Nibble) (noz : Byte) (tx : Nibble) (xp : List Byte),
    (∃ t, exec (.bldPoll addr) s = .next t ∧ encode (.framePoll addr) = { space := .wire, bytes := t.arch.txbuf }) ∧
      (∃ t, exec (.bldAck addr tx) s = .next t ∧
        encode (.frameAck addr (BitVec.ofNat 3 tx.toNat)) = { space := .wire, bytes := t.arch.txbuf }) ∧
      (∃ t, exec (.bldNack addr tx) s = .next t ∧
        encode (.frameNack addr (BitVec.ofNat 3 tx.toNat)) = { space := .wire, bytes := t.arch.txbuf }) ∧
      (xp.length ≤ 254 → ∃ t, exec (.bldData addr cmd noz tx xp) s = .next t ∧
        encode (.frameData addr (BitVec.ofNat 3 tx.toNat) (cmd ++ BitVec.ofNat 4 noz.toNat) xp) =
          { space := .wire, bytes := t.arch.txbuf })

/-! ### NOP and RESET -/

/-- `NOP` (R88): no state element is written, not even `err_code`. -/
def Obligations.NopChangesNothing : Prop :=
  (stimulusCode .nop = some 0x00) ∧ ∀ s : State, exec .nop s = .next { s with result := .noResult }

/-- `RESET` (R260) from any state: every element takes its value, the configuration stays, and the flags are as the rule says. -/
def Obligations.ResetWritesEveryElement : Prop :=
  (stimulusCode .reset = some 0xFF) ∧ ∀ s : State, ∃ t, exec .reset s = .next t ∧
    t = { s with
      arch := { crc := 0x0000, txn := 1, rxState := .idle, rxbuf := [], rxAddr := 0x00, rxTotal := 0, tTotal := 0, tSilence := 0,
                rxReason := .none, txbuf := [], errCode := 0 }
      result := .noResult } ∧
    t.arch.rxIdle = true ∧ t.arch.rxEmpty = true ∧ t.arch.rxActive = false ∧ t.arch.rxDone = false ∧ t.arch.rxReady = false ∧
    t.arch.candEnd = false ∧ t.arch.err = false

/-- The machine after reset holds R21's reset column (R37). The configuration, the empty list of inputs and the empty result are the
model's (log 1, log 6, log 7) and are not stated here. -/
def Obligations.ResetStateHoldsTheResetColumn : Prop :=
  State.reset.arch.crc = 0x0000 ∧ State.reset.arch.txn = 1 ∧ State.reset.arch.rxState = .idle ∧ State.reset.arch.rxLen = 0 ∧
    State.reset.arch.rxAddr = 0x00 ∧ State.reset.arch.rxTotal = 0 ∧ State.reset.arch.tTotal = 0 ∧ State.reset.arch.tSilence = 0 ∧
    State.reset.arch.rxReason = .none ∧ State.reset.arch.txLen = 0 ∧ State.reset.arch.errCode = 0

/-! ### U1, the CRC-16 generator -/

/-- `CRC_CLR` (R102) and `CRC_UPD` (R103): `crc` and `err_code` are written, nothing else. The value `CRC_UPD` writes is R100's: the byte
is exclusive-ORed into bits 7 to 0, then eight times the value is shifted right, with 0x8408 exclusive-ORed in if bit 0 was set before
the shift. `crc16` is the left fold of that update from 0x0000, byte 0 first (R101). -/
def Obligations.CrcClearAndUpdateWriteCrc : Prop :=
  let shift (c : Word16) : Word16 := if c.getLsbD 0 = true then (c >>> 1) ^^^ 0x8408 else c >>> 1
  let update (c : Word16) (b : Byte) : Word16 := shift^[8] (c ^^^ b.setWidth 16)
  (∀ bytes : List Byte, crc16 bytes = bytes.foldl update 0x0000) ∧
  ∀ (s : State) (b : Byte),
    stimulusCode .crcClr = some 0x10 ∧ stimulusCode (.crcUpd b) = some 0x11 ∧
    exec .crcClr s = .next { s with arch := { s.arch with crc := 0x0000, errCode := 0 }, result := .noResult } ∧
    exec (.crcUpd b) s =
      .next { s with arch := { s.arch with crc := update s.arch.crc b, errCode := 0 }, result := .noResult }

/-- `CRC_RD` (R105), `CRC_BLK` (R106) and `CRC_CHK` (R107) return their values and change nothing but `err_code`. -/
def Obligations.CrcReadingStimuliLeaveCrc : Prop :=
  ∀ (s : State) (bytes : List Byte),
    stimulusCode .crcRd = some 0x12 ∧ stimulusCode (.crcBlk bytes) = some 0x13 ∧ stimulusCode (.crcChk bytes) = some 0x14 ∧
    exec .crcRd s = .next { s with
      arch := { s.arch with errCode := 0 }
      result := .crcRead s.arch.crc (BitVec.ofNat 8 s.arch.crc.toNat) (BitVec.ofNat 8 (s.arch.crc.toNat / 256)) } ∧
    exec (.crcBlk bytes) s =
      .next { s with arch := { s.arch with errCode := 0 }, result := .crcBlock (crc16 bytes) } ∧
    exec (.crcChk bytes) s = .next { s with
      arch := { s.arch with errCode := 0 }, result := .crcCheck (decide (crc16 bytes = 0x0000)) (crc16 bytes) }

/-- The verification contract (R104) with its converse: the residue over a sequence and two more bytes is zero exactly when these
bytes are the sequence's CRC, low byte first. -/
def Obligations.ZeroResidueIffCheckBytesMatch : Prop :=
  ∀ (bytes : List Byte) (x y : Byte),
    crc16 (bytes ++ [x, y]) = 0x0000 ↔
      x = BitVec.ofNat 8 (crc16 bytes).toNat ∧ y = BitVec.ofNat 8 ((crc16 bytes).toNat / 256)

/-- `crc16` is linear over exclusive OR for sequences of equal length (R108). -/
def Obligations.CrcIsLinearOverXor : Prop :=
  ∀ a b : List Byte, a.length = b.length → crc16 (List.zipWith (· ^^^ ·) a b) = crc16 a ^^^ crc16 b

/-- Streaming and block forms agree (R108): `CRC_CLR` and one `CRC_UPD` a byte leave `crc16` of the bytes in `crc` and write
nothing else but `err_code`. -/
def Obligations.StreamingCrcAgreesWithBlockForm : Prop :=
  ∀ (bytes : List Byte) (s : State),
    execAll (.crcClr :: bytes.map .crcUpd) s =
      .next { s with arch := { s.arch with crc := crc16 bytes, errCode := 0 }, result := .noResult }

/-! ### U2, the frame encoder -/

/-- `BLD_POLL` (R121), `BLD_ACK` (R122), `BLD_NACK` (R123): the three bytes in `TXBUF` and returned with `addr_ok`; nothing else but
`err_code` is written. -/
def Obligations.ShortFramesAreBuilt : Prop :=
  ∀ (s : State) (addr : Byte) (tx : Nibble),
    let ack : Byte := BitVec.ofNat 8 (0x80 ||| (tx.toNat <<< 4) ||| 2)
    let nack : Byte := BitVec.ofNat 8 (0x80 ||| (tx.toNat <<< 4) ||| 3)
    let ok := decide (0x50 ≤ addr.toNat ∧ addr.toNat ≤ 0x6F)
    stimulusCode (.bldPoll addr) = some 0x20 ∧ stimulusCode (.bldAck addr tx) = some 0x21 ∧
    stimulusCode (.bldNack addr tx) = some 0x22 ∧
    exec (.bldPoll addr) s = .next { s with
      arch := { s.arch with txbuf := [addr, 0x81, 0xFA], errCode := 0 }, result := .frame [addr, 0x81, 0xFA] ok } ∧
    exec (.bldAck addr tx) s = .next { s with
      arch := { s.arch with txbuf := [addr, ack, 0xFA], errCode := 0 }, result := .frame [addr, ack, 0xFA] ok } ∧
    exec (.bldNack addr tx) s = .next { s with
      arch := { s.arch with txbuf := [addr, nack, 0xFA], errCode := 0 }, result := .frame [addr, nack, 0xFA] ok }

/-- `BLD_DATA` (R124): the frame of `8 + E` bytes for every extra payload of at most 254 bytes, and the refusal of a longer one. -/
def Obligations.DataFrameIsBuilt : Prop :=
  ∀ (s : State) (addr : Byte) (cmd : Nibble) (noz : Byte) (tx : Nibble) (xp : List Byte),
    let control : Byte := BitVec.ofNat 8 (0x80 ||| (tx.toNat <<< 4) ||| 4)
    let opc : Byte := BitVec.ofNat 8 ((cmd.toNat <<< 4) ||| (noz.toNat &&& 0xF))
    let span := [addr, control, BitVec.ofNat 8 (1 + xp.length), opc] ++ xp
    let frame := span ++ [BitVec.ofNat 8 (crc16 span).toNat, BitVec.ofNat 8 ((crc16 span).toNat / 256), 0x03, 0xFA]
    stimulusCode (.bldData addr cmd noz tx xp) = some 0x23 ∧
    (xp.length ≤ 254 → frame.length = 8 + xp.length ∧
      exec (.bldData addr cmd noz tx xp) s = .next { s with
        arch := { s.arch with txbuf := frame, errCode := 0 }
        result := .frame frame (decide (0x50 ≤ addr.toNat ∧ addr.toNat ≤ 0x6F)) }) ∧
    (254 < xp.length → exec (.bldData addr cmd noz tx xp) s = .next { s with
      arch := { s.arch with errCode := 6 }, result := .failed (.lengthOverflow xp.length) })

/-- `SND_DATA` (R128): the frame `BLD_DATA` builds with the number `txn` holds, which is returned and then advanced; a refused one
leaves `txn`. -/
def Obligations.SendDataUsesThenAdvancesTxn : Prop :=
  ∀ (s : State) (addr : Byte) (cmd : Nibble) (noz : Byte) (xp : List Byte),
    stimulusCode (.sndData addr cmd noz xp) = some 0x24 ∧
    (xp.length ≤ 254 → ∃ frame ok,
      exec (.bldData addr cmd noz s.arch.txn xp) s =
        .next { s with arch := { s.arch with txbuf := frame, errCode := 0 }, result := .frame frame ok } ∧
      exec (.sndData addr cmd noz xp) s = .next { s with
        arch := { s.arch with
          txbuf := frame, txn := if s.arch.txn = 15 then 1 else s.arch.txn + 1, errCode := 0 }
        result := .sent frame ok s.arch.txn }) ∧
    (254 < xp.length → exec (.sndData addr cmd noz xp) s = .next { s with
      arch := { s.arch with errCode := 6 }, result := .failed (.lengthOverflow xp.length) })

/-- LengthOverflow (R127): a build with more than 254 bytes of extra payload writes nothing to `TXBUF`, leaves `tx_len` and `txn`,
sets `err_code` to 6 and returns the failure. -/
def Obligations.TooLongPayloadIsRefused : Prop :=
  ∀ (s : State) (addr : Byte) (cmd : Nibble) (noz : Byte) (tx : Nibble) (xp : List Byte) (i : Instr),
    254 < xp.length → (i = .bldData addr cmd noz tx xp ∨ i = .sndData addr cmd noz xp) →
    ∃ t, exec i s = .next t ∧ t.arch.txbuf = s.arch.txbuf ∧ t.arch.txLen = s.arch.txLen ∧ t.arch.txn = s.arch.txn ∧
      t.arch.errCode = 6 ∧ t.result = .failed (.lengthOverflow xp.length) ∧ t.arch = { s.arch with errCode := 6 }

/-- The control byte (R74): the formula truncated to 8 bits, its second form, and what the unpacker reads back (R201): bit 3 of the
transaction number is lost. -/
def Obligations.ControlByteFollowsTheFormula : Prop :=
  ∀ tx code : Nibble,
    (controlByte tx code).toNat = (0x80 ||| (tx.toNat <<< 4) ||| code.toNat) % 256 ∧
    (controlByte tx code).toNat = 0x80 ||| ((tx.toNat &&& 7) <<< 4) ||| code.toNat ∧
    ctrlMaster (controlByte tx code) = true ∧ (ctrlTx3 (controlByte tx code)).toNat = tx.toNat % 8 ∧
    ctrlCode (controlByte tx code) = code

/-- Two requests that differ by `tx` versus `tx + 8`, or by `noz` versus `noz + 16`, build byte-identical frames (R125). -/
def Obligations.AliasedRequestsBuildTheSameFrame : Prop :=
  ∀ (s : State) (addr : Byte) (cmd : Nibble) (noz : Byte) (tx : Nibble) (xp : List Byte),
    exec (.bldData addr cmd noz (tx + 8) xp) s = exec (.bldData addr cmd noz tx xp) s ∧
    exec (.bldData addr cmd (noz + 16) tx xp) s = exec (.bldData addr cmd noz tx xp) s ∧
    exec (.sndData addr cmd (noz + 16) xp) s = exec (.sndData addr cmd noz xp) s ∧
    exec (.bldAck addr (tx + 8)) s = exec (.bldAck addr tx) s ∧ exec (.bldNack addr (tx + 8)) s = exec (.bldNack addr tx) s

/-- Round trip of the encoder with the decoder (R130): what a build leaves in `TXBUF` decodes to the request, all fields. -/
def Obligations.DecoderRecoversBuiltFrames : Prop :=
  ∀ (s : State) (addr : Byte) (cmd : Nibble) (noz : Byte) (tx : Nibble) (xp : List Byte),
    let ok := decide (0x50 ≤ addr.toNat ∧ addr.toNat ≤ 0x6F)
    let tx3 : BitVec 3 := BitVec.ofNat 3 tx.toNat
    let control (code : Nat) : Byte := BitVec.ofNat 8 (0x80 ||| (tx.toNat <<< 4) ||| code)
    let opc : Byte := BitVec.ofNat 8 ((cmd.toNat <<< 4) ||| (noz.toNat &&& 0xF))
    (∃ t, exec (.bldPoll addr) s = .next t ∧ decodeFrame t.arch.txbuf = .short
      { address := addr, control := 0x81, masterFlag := true, tx3 := 0, code := 1, cls := .poll, stopOk := true, addrOk := ok }) ∧
    (∃ t, exec (.bldAck addr tx) s = .next t ∧ decodeFrame t.arch.txbuf = .short
      { address := addr, control := control 2, masterFlag := true, tx3 := tx3, code := 2, cls := .ack, stopOk := true,
        addrOk := ok }) ∧
    (∃ t, exec (.bldNack addr tx) s = .next t ∧ decodeFrame t.arch.txbuf = .short
      { address := addr, control := control 3, masterFlag := true, tx3 := tx3, code := 3, cls := .nack, stopOk := true,
        addrOk := ok }) ∧
    (xp.length ≤ 254 → ∃ t, exec (.bldData addr cmd noz tx xp) s = .next t ∧ decodeFrame t.arch.txbuf = .data
      { address := addr, control := control 4, masterFlag := true, tx3 := tx3, code := 4, length := BitVec.ofNat 8 (1 + xp.length)
        opc := opc, opcHi := cmd, nozzle := BitVec.ofNat 4 noz.toNat, payload := xp
        crc := crc16 ([addr, control 4, BitVec.ofNat 8 (1 + xp.length), opc] ++ xp)
        etxOk := true, stopPresent := true, addrOk := ok })

/-! ### U3, the decoder -/

/-- `DEC_FRAME` (R150, R160) answers for every sequence; it writes `err_code` alone, 4 for an UNPARSEABLE record, which carries the whole
input, and 0 for the others. -/
def Obligations.DecodingWritesErrCodeAlone : Prop :=
  ∀ (s : State) (bytes : List Byte),
    stimulusCode (.decFrame bytes) = some 0x30 ∧
    (∀ f, decodeFrame bytes = .short f → exec (.decFrame bytes) s =
      .next { s with arch := { s.arch with errCode := 0 }, result := .decoded (.short f) }) ∧
    (∀ f, decodeFrame bytes = .data f → exec (.decFrame bytes) s =
      .next { s with arch := { s.arch with errCode := 0 }, result := .decoded (.data f) }) ∧
    (∀ raw why, decodeFrame bytes = .unparseable raw why → raw = bytes ∧ exec (.decFrame bytes) s =
      .next { s with arch := { s.arch with errCode := 4 }, result := .decoded (.unparseable bytes why) })

/-- Any three bytes are a short control frame (R153) with the fields of R152, and no other sequence is (R151, R163). The class is R153's
for every second byte; for a noise-collapsed buffer `FA addr 81` with `addr` 0x51 to 0x53 or 0x61 to 0x63, where R272 infers UNKNOWN,
following R153 is the model's choice (log 17). -/
def Obligations.ThreeBytesDecodeAsShort : Prop :=
  (∀ a c x : Byte, decodeFrame [a, c, x] = .short
    { address := a, control := c, masterFlag := decide (128 ≤ c.toNat), tx3 := BitVec.ofNat 3 (c.toNat / 16)
      code := BitVec.ofNat 4 c.toNat
      cls := if c.toNat % 16 = 1 then .poll else if c.toNat % 16 = 2 then .ack else if c.toNat % 16 = 3 then .nack else .unknown
      stopOk := decide (x = 0xFA), addrOk := decide (0x50 ≤ a.toNat ∧ a.toNat ≤ 0x6F) }) ∧
  ∀ (bytes : List Byte) (f : ShortRecord), decodeFrame bytes = .short f → bytes.length = 3

/-- What is a DATA frame (R151, R154 to R159), as a grammar: four header bytes with control code 4, a payload the `length` byte counts, two
CRC bytes with zero residue, an ETX position, and the STOP_FLAG, which may be missing only if the ETX position does not hold 0xFA. The
record's fields are the frame's bytes. -/
def Obligations.DataFramesAreExactlyTheGrammar : Prop :=
  ∀ (bytes : List Byte) (f : DataRecord),
    decodeFrame bytes = .data f ↔
      ∃ (a c len o : Byte) (payload : List Byte) (lo hi x : Byte) (stop : Bool),
        bytes = [a, c, len, o] ++ payload ++ [lo, hi, x] ++ (if stop then [0xFA] else []) ∧
        (stop = false → x ≠ 0xFA) ∧ c.toNat % 16 = 4 ∧ len.toNat = 1 + payload.length ∧
        crc16 ([a, c, len, o] ++ payload ++ [lo, hi]) = 0x0000 ∧
        f = { address := a, control := c, masterFlag := decide (128 ≤ c.toNat), tx3 := BitVec.ofNat 3 (c.toNat / 16), code := 4
              length := len, opc := o, opcHi := BitVec.ofNat 4 (o.toNat / 16), nozzle := BitVec.ofNat 4 o.toNat
              payload := payload, crc := BitVec.ofNat 16 (lo.toNat + 256 * hi.toNat), etxOk := decide (x = 0x03)
              stopPresent := stop, addrOk := decide (0x50 ≤ a.toNat ∧ a.toNat ≤ 0x6F) }

/-- Which reason an UNPARSEABLE record carries (R155 to R158) and in which order the tests are made (R161). -/
def Obligations.UnparseableReasonFollowsTheTestOrder : Prop :=
  ∀ (bytes : List Byte) (why : Why),
    let n := bytes.length
    let tail := if bytes[n - 1]? = some 0xFA then 2 else 1
    let span := n - tail - 2
    let isData := 7 ≤ n ∧ ∃ c, bytes[1]? = some c ∧ c.toNat % 16 = 4
    let residueZero := crc16 (bytes.take (span + 2)) = 0x0000
    decodeFrame bytes = .unparseable bytes why ↔ n ≠ 3 ∧
      ((why = .cls ∧ ¬ isData) ∨ (why = .span ∧ isData ∧ span < 4) ∨
        (why = .crc ∧ isData ∧ 4 ≤ span ∧ ¬ residueZero) ∨
        (why = .length ∧ isData ∧ 4 ≤ span ∧ residueZero ∧
          ∃ len, bytes[2]? = some len ∧ (len.toNat = 0 ∨ 3 + len.toNat ≠ span)))

/-- The length of a sequence decides the kind, and a DATA record bounds it (R163). The length of a DATA record's sequence is the one of R154
and R158, `5 + L + T`; R163's inference writes `6 + L + T` (log 15). -/
def Obligations.SequenceLengthDecidesTheKind : Prop :=
  ∀ bytes : List Byte,
    (bytes.length ∈ [0, 1, 2, 4, 5, 6] → decodeFrame bytes = .unparseable bytes .cls) ∧
    (bytes.length = 3 → ∃ f, decodeFrame bytes = .short f) ∧
    (7 ≤ bytes.length → (∃ f, decodeFrame bytes = .data f) ∨ ∃ why, decodeFrame bytes = .unparseable bytes why) ∧
    (∀ f, decodeFrame bytes = .data f →
      bytes.length = 5 + f.length.toNat + (if f.stopPresent then 2 else 1) ∧ bytes.length ≤ 262)

/-- The frame rows of the table (R71, R72): given to the decoder they are decoded as their kind, with `err_code` 0 and nothing else
written. That this is their meaning as instructions is the model's reading (log 3). -/
def Obligations.FrameRowsDecodeAsTheirKind : Prop :=
  ∀ (s : State) (addr : Byte) (tx3 : BitVec 3) (opc : Byte) (xp : List Byte),
    let ok := decide (0x50 ≤ addr.toNat ∧ addr.toNat ≤ 0x6F)
    let control (code : Nat) : Byte := BitVec.ofNat 8 (0x80 ||| (tx3.toNat <<< 4) ||| code)
    exec (.framePoll addr) s = .next { s with
      arch := { s.arch with errCode := 0 }
      result := .decoded (.short
        { address := addr, control := 0x81, masterFlag := true, tx3 := 0, code := 1, cls := .poll, stopOk := true, addrOk := ok }) } ∧
    exec (.frameAck addr tx3) s = .next { s with
      arch := { s.arch with errCode := 0 }
      result := .decoded (.short
        { address := addr, control := control 2, masterFlag := true, tx3 := tx3, code := 2, cls := .ack, stopOk := true,
          addrOk := ok }) } ∧
    exec (.frameNack addr tx3) s = .next { s with
      arch := { s.arch with errCode := 0 }
      result := .decoded (.short
        { address := addr, control := control 3, masterFlag := true, tx3 := tx3, code := 3, cls := .nack, stopOk := true,
          addrOk := ok }) } ∧
    (xp.length ≤ 254 → exec (.frameData addr tx3 opc xp) s = .next { s with
      arch := { s.arch with errCode := 0 }
      result := .decoded (.data
        { address := addr, control := control 4, masterFlag := true, tx3 := tx3, code := 4
          length := BitVec.ofNat 8 (1 + xp.length), opc := opc, opcHi := BitVec.ofNat 4 (opc.toNat / 16)
          nozzle := BitVec.ofNat 4 opc.toNat, payload := xp
          crc := crc16 ([addr, control 4, BitVec.ofNat 8 (1 + xp.length), opc] ++ xp)
          etxOk := true, stopPresent := true, addrOk := ok }) })

/-- `status_valid` and the status record (R207, R208), for either value of `STATUS_BYTE_INDEX`. The record of a SHORT or an UNPARSEABLE
frame is never valid; nothing is said of the other fields of a record that is not valid (log 16). -/
def Obligations.StatusRecordNeedsAValidFrame : Prop :=
  ∀ (c : Config) (f : DataRecord) (g : ShortRecord) (raw : List Byte) (why : Why),
    (statusValid (.data f) = true ↔ f.opcHi = 0 ∧ 2 ≤ f.payload.length) ∧
    statusValid (.short g) = false ∧ statusValid (.unparseable raw why) = false ∧
    (pumpStatus c (.short g)).isValid = false ∧ (pumpStatus c (.unparseable raw why)).isValid = false ∧
    statusFailure (.unparseable raw why) = some .malformedFrame ∧
    (¬ (f.opcHi = 0 ∧ 2 ≤ f.payload.length) → statusFailure (.data f) = some .unsupportedResponseType ∧
      (pumpStatus c (.data f)).isValid = false) ∧
    (f.opcHi = 0 → 2 ≤ f.payload.length → c.Valid → ∃ st, f.payload[c.statusByteIndex]? = some st ∧
      pumpStatus c (.data f) =
        { isValid := true, address := f.address, nozzleNumber := f.nozzle, statusCode := BitVec.ofNat 4 st.toNat
          nozzleOn := decide (st.toNat / 16 % 2 = 1), rfTagSensed := decide (st.toNat / 32 % 2 = 1)
          errorFlag := decide (st.toNat / 64 % 2 = 1) })

/-! ### U4, the receive state machine -/

/-- `RX_START` (R171) in IDLE or DONE with a legal `total`: the receive opens. -/
def Obligations.RxStartOpensAReceive : Prop :=
  ∀ (s : State) (addr : Byte) (total : Word16),
    s.arch.rxState ≠ .active → 1 ≤ total.toNat → total.toNat ≤ 65534 →
    stimulusCode (.rxStart addr total) = some 0x40 ∧
    ∃ t, exec (.rxStart addr total) s = .next t ∧
      t = { s with
        arch := { s.arch with
          rxState := .active, rxbuf := [], rxAddr := addr, rxTotal := total, tTotal := 0, tSilence := 0, rxReason := .none,
          errCode := 0 }
        result := .noResult } ∧
      t.arch.rxActive = true ∧ t.arch.rxReady = true ∧ t.arch.rxEmpty = true ∧ t.arch.rxDone = false ∧ t.arch.rxIdle = false

/-- `RX_START` refused: Busy while ACTIVE (R172), BadOperand for `total` 0 or 65535 otherwise (R183); only `err_code` changes. -/
def Obligations.RxStartRefusals : Prop :=
  ∀ (s : State) (addr : Byte) (total : Word16),
    (s.arch.rxState = .active → exec (.rxStart addr total) s =
      .next { s with arch := { s.arch with errCode := 7 }, result := .failed .busy }) ∧
    (s.arch.rxState ≠ .active → (total.toNat = 0 ∨ total.toNat = 65535) → exec (.rxStart addr total) s =
      .next { s with arch := { s.arch with errCode := 10 }, result := .failed (.badOperand total.toNat) })

/-- Noise collapsing on a byte (R176): when the buffer with the new byte collapses to `r` bytes, it is cut there and the receive ends
with NOISE_COLLAPSED and `err_code` 0. -/
def Obligations.RxByteCollapsesNoise : Prop :=
  ∀ (s : State) (b : Byte) (r : Nat),
    s.arch.rxState = .active → collapse (s.arch.rxbuf ++ [b]) s.arch.rxAddr = some r →
    exec (.rxByte b) s = .next { s with
      arch := { s.arch with
        rxbuf := (s.arch.rxbuf ++ [b]).take r, tSilence := 0, rxState := .done, rxReason := .noiseCollapsed, errCode := 0 }
      result := .noResult }

/-- `RX_BYTE` in ACTIVE when nothing collapses (R173 to R175): the byte is appended and the silence timer cleared; the byte that fills
the buffer is kept and ends the receive with RxOverflow (R174). -/
def Obligations.RxByteAppendsAndOverflows : Prop :=
  ∀ (s : State) (b : Byte),
    s.arch.rxState = .active → collapse (s.arch.rxbuf ++ [b]) s.arch.rxAddr = none →
    stimulusCode (.rxByte b) = some 0x41 ∧
    (s.arch.rxLen + 1 ≠ s.cfg.rxCap → exec (.rxByte b) s = .next { s with
      arch := { s.arch with rxbuf := s.arch.rxbuf ++ [b], tSilence := 0, errCode := 0 }, result := .noResult }) ∧
    (s.arch.rxLen + 1 = s.cfg.rxCap → exec (.rxByte b) s = .next { s with
      arch := { s.arch with
        rxbuf := s.arch.rxbuf ++ [b], tSilence := 0, rxState := .done, rxReason := .overflow, errCode := 8 }
      result := .failed .rxOverflow })

/-- `RX_BYTE` outside ACTIVE (R173): no state changes, not even `err_code`. That this is a no-change step, with the byte handed back to the
transport in the result, is the model's choice between the two I21 allows (log 4). -/
def Obligations.RxByteOutsideActiveChangesNothing : Prop :=
  ∀ (s : State) (b : Byte),
    s.arch.rxState ≠ .active → exec (.rxByte b) s = .next { s with result := .notTaken b }

/-- The function `collapse` (R182): the first offset at which three patterns stand back to back, 3 in place of 0; none if there is no
such offset. -/
def Obligations.CollapseFindsTheFirstRun : Prop :=
  ∀ (buf : List Byte) (a : Byte),
    (∀ r, collapse buf a = some r ↔
      ∃ p, NoiseRunAt a buf p ∧ (∀ q < p, ¬ NoiseRunAt a buf q) ∧ r = if p = 0 then 3 else p) ∧
    (collapse buf a = none ↔ ∀ p, ¬ NoiseRunAt a buf p)

/-- The incremental form (R185): while no run is in the buffer, only the last nine bytes need to be compared. -/
def Obligations.CollapseNeedsOnlyTheLastNineBytes : Prop :=
  ∀ (buf : List Byte) (b a : Byte),
    collapse buf a = none →
    collapse (buf ++ [b]) a =
      if 8 ≤ buf.length ∧ (buf ++ [b]).drop (buf.length - 8) = [0xFA, a, 0x81, 0xFA, a, 0x81, 0xFA, a, 0x81] then
        some (if buf.length = 8 then 3 else buf.length - 8)
      else none

/-- `RX_TICK` in ACTIVE (R177): both timers count, then total timeout, confirmed stop flag and silence are tried in this order; with none
of them the receive goes on. -/
def Obligations.RxTickCountsAndEnds : Prop :=
  ∀ s : State, s.arch.rxState = .active →
    let total := s.arch.tTotal + 1
    let silence := s.arch.tSilence + 1
    let timeout := s.arch.rxTotal.toNat < total.toNat
    let stop := 8 ≤ s.arch.rxLen ∧ s.arch.rxRead (s.arch.rxLen - 1) = some 0xFA ∧ s.cfg.confirmTicks ≤ silence.toNat
    let quiet := 1 ≤ s.arch.rxLen ∧ s.cfg.quietTicks ≤ silence.toNat
    let ends (r : RxReason) : Host.Outcome State Fault Refusal := .next { s with
      arch := { s.arch with tTotal := total, tSilence := silence, rxState := .done, rxReason := r, errCode := 0 }
      result := .noResult }
    stimulusCode .rxTick = some 0x42 ∧
    (timeout → exec .rxTick s = ends .totalTimeout) ∧
    (¬ timeout → stop → exec .rxTick s = ends .stopConfirmed) ∧
    (¬ timeout → ¬ stop → quiet → exec .rxTick s = ends .silence) ∧
    (¬ timeout → ¬ stop → ¬ quiet → exec .rxTick s = .next { s with
      arch := { s.arch with tTotal := total, tSilence := silence, errCode := 0 }, result := .noResult })

/-- `RX_TICK` while IDLE or DONE changes nothing, not even `err_code` (R180). -/
def Obligations.RxTickOutsideActiveChangesNothing : Prop :=
  ∀ s : State, s.arch.rxState ≠ .active → exec .rxTick s = .next { s with result := .noResult }

/-- `RX_RD` (R184): state, reason and buffer are returned, in every `rx_state`; `err_code` is 3 for an empty buffer in DONE, else 0;
nothing else changes. -/
def Obligations.RxReadReturnsTheBuffer : Prop :=
  ∀ s : State,
    stimulusCode .rxRd = some 0x43 ∧
    (s.arch.rxState = .done → s.arch.rxLen = 0 → exec .rxRd s = .next { s with
      arch := { s.arch with errCode := 3 }, result := .received s.arch.rxState s.arch.rxReason s.arch.rxbuf }) ∧
    (¬ (s.arch.rxState = .done ∧ s.arch.rxLen = 0) → exec .rxRd s = .next { s with
      arch := { s.arch with errCode := 0 }, result := .received s.arch.rxState s.arch.rxReason s.arch.rxbuf })

/-- The transitions of `rx_state` (R27), over every instruction: IDLE or DONE to ACTIVE by `RX_START`, ACTIVE to DONE by `RX_BYTE` or
`RX_TICK`, any state to IDLE by `RESET`, and no other; in DONE the buffer stays until `RX_START` or `RESET`; the encodings. -/
def Obligations.ReceiveStateTransitions : Prop :=
  (RxState.code .idle = 0 ∧ RxState.code .active = 1 ∧ RxState.code .done = 2) ∧
  ∀ (i : Instr) (s t : State), exec i s = .next t →
    (t.arch.rxState = s.arch.rxState ∨
      (s.arch.rxState ≠ .active ∧ t.arch.rxState = .active ∧ ∃ addr total, i = .rxStart addr total) ∨
      (s.arch.rxState = .active ∧ t.arch.rxState = .done ∧ (i = .rxTick ∨ ∃ b, i = .rxByte b)) ∨
      (t.arch.rxState = .idle ∧ i = .reset)) ∧
    (s.arch.rxState = .done → i ≠ .reset → (∀ addr total, i ≠ .rxStart addr total) →
      t.arch.rxbuf = s.arch.rxbuf ∧ t.arch.rxState = .done)

/-- Every receive ends (R188, R274): from ACTIVE, whatever else happens but a `RESET` or `RX_START`, the receive is over once more
ticks have come than `rx_total` minus the ticks already counted. That ticks come is the assumption R274 names. -/
def Obligations.ReceiveEndsWithinTotalTicks : Prop :=
  ∀ (s : State) (is : List Instr),
    s.Inv → s.arch.rxState = .active → .reset ∉ is → (∀ addr total, .rxStart addr total ∉ is) →
    s.arch.rxTotal.toNat < s.arch.tTotal.toNat + is.count .rxTick →
    ∃ t, execAll is s = .next t ∧ t.arch.rxState = .done

/-- `RXBUF` is append-only (R51): a byte a stimulus leaves at an index was there before, or is the byte just appended at the old
length; at or beyond the length nothing is read. -/
def Obligations.StoredBytesAreNeverRewritten : Prop :=
  (∀ (a : Arch) (k : Nat), a.rxLen ≤ k → a.rxRead k = none) ∧
  ∀ (i : Instr) (s t : State) (k : Nat) (v : Byte), exec i s = .next t → t.arch.rxRead k = some v →
    s.arch.rxRead k = some v ∨ (k = s.arch.rxLen ∧ i = .rxByte v)

/-! ### U5, the bit-unpacker -/

/-- `UNP_CTRL` (R201) with the names of R202; nothing but `err_code` is written. -/
def Obligations.ControlByteIsUnpacked : Prop :=
  ∀ (s : State) (c : Byte),
    stimulusCode (.unpCtrl c) = some 0x50 ∧
    exec (.unpCtrl c) s = .next { s with
      arch := { s.arch with errCode := 0 }
      result := .control (decide (128 ≤ c.toNat)) (BitVec.ofNat 3 (c.toNat / 16)) (BitVec.ofNat 4 c.toNat)
        (if c.toNat % 16 = 1 then .poll else if c.toNat % 16 = 2 then .ack else if c.toNat % 16 = 3 then .nack
          else if c.toNat % 16 = 4 then .data else if c.toNat % 16 = 5 then .ackPoll else .unnamed) }

/-- `UNP_OPC` (R203) and `UNP_STAT` (R204); no output of `UNP_STAT` depends on bit 7 (R205); nothing but `err_code` is written. -/
def Obligations.OpcAndStatusBytesAreUnpacked : Prop :=
  ∀ (s : State) (o st : Byte),
    stimulusCode (.unpOpc o) = some 0x51 ∧ stimulusCode (.unpStat st) = some 0x52 ∧
    exec (.unpOpc o) s = .next { s with
      arch := { s.arch with errCode := 0 }
      result := .opc (BitVec.ofNat 4 (o.toNat / 16)) (BitVec.ofNat 4 o.toNat) } ∧
    exec (.unpStat st) s = .next { s with
      arch := { s.arch with errCode := 0 }
      result := .status (BitVec.ofNat 4 st.toNat) (decide (st.toNat / 16 % 2 = 1)) (decide (st.toNat / 32 % 2 = 1))
        (decide (st.toNat / 64 % 2 = 1)) } ∧
    exec (.unpStat (st ^^^ 0x80)) s = exec (.unpStat st) s

/-- The layout rows of the table (R73, R75, R204): assembled from its fields and given to the unpacker, a byte gives its fields back; bit 7 of
the status byte has no effect (R205). That this is their meaning as instructions is the model's reading (log 3). -/
def Obligations.LayoutRowsUnpackToTheirFields : Prop :=
  ∀ (s : State) (m : BitVec 1) (t : BitVec 3) (c h n code : Nibble) (u e f on : BitVec 1),
    exec (.fieldControl m t c) s = .next { s with
      arch := { s.arch with errCode := 0 }
      result := .control (decide (m = 1)) t c
        (if c.toNat = 1 then .poll else if c.toNat = 2 then .ack else if c.toNat = 3 then .nack
          else if c.toNat = 4 then .data else if c.toNat = 5 then .ackPoll else .unnamed) } ∧
    exec (.fieldOpc h n) s = .next { s with arch := { s.arch with errCode := 0 }, result := .opc h n } ∧
    exec (.fieldStatus u e f on code) s = .next { s with
      arch := { s.arch with errCode := 0 }
      result := .status code (decide (on = 1)) (decide (f = 1)) (decide (e = 1)) }

/-- `BCD_CONV` (R210): the digits read as a decimal number, most significant first, below 10 to the number of digits; an invalid digit
gives value 0 and `err_code` 4; a sequence too long is refused. -/
def Obligations.BcdIsConvertedToDecimal : Prop :=
  ∀ (s : State) (bytes : List Byte),
    let digits := bytes.flatMap fun b => [b.toNat / 16, b.toNat % 16]
    let value := Nat.ofDigits 10 digits.reverse
    stimulusCode (.bcdConv bytes) = some 0x53 ∧
    (bytes.length ≤ s.cfg.bcdMaxBytes → (∀ d ∈ digits, d ≤ 9) → value < 10 ^ (2 * bytes.length) ∧
      exec (.bcdConv bytes) s =
        .next { s with arch := { s.arch with errCode := 0 }, result := .bcd value true }) ∧
    (bytes.length ≤ s.cfg.bcdMaxBytes → (∃ d ∈ digits, 9 < d) → exec (.bcdConv bytes) s =
      .next { s with arch := { s.arch with errCode := 4 }, result := .bcd 0 false }) ∧
    (s.cfg.bcdMaxBytes < bytes.length → exec (.bcdConv bytes) s =
      .next { s with arch := { s.arch with errCode := 10 }, result := .failed (.badOperand bytes.length) })

/-! ### U6, the sequencer -/

/-- `TXN_RD` (R220), `TXN_ADV` (R221), `TXN_TAKE` (R222). -/
def Obligations.SequencerStimuli : Prop :=
  ∀ s : State,
    let next : Nibble := if s.arch.txn = 15 then 1 else s.arch.txn + 1
    stimulusCode .txnRd = some 0x60 ∧ stimulusCode .txnAdv = some 0x61 ∧ stimulusCode .txnTake = some 0x62 ∧
    exec .txnRd s = .next { s with arch := { s.arch with errCode := 0 }, result := .txn s.arch.txn } ∧
    exec .txnAdv s = .next { s with arch := { s.arch with txn := next, errCode := 0 }, result := .noResult } ∧
    exec .txnTake s = .next { s with arch := { s.arch with txn := next, errCode := 0 }, result := .txn s.arch.txn }

/-- After `k` advances from 1, `txn` is `(k mod 15) + 1` (R221); fifteen advances from any legal number return to it (R221). -/
def Obligations.TxnCyclesWithPeriodFifteen : Prop :=
  (∀ (k : Nat) (s : State), s.arch.txn = 1 →
    ∃ t, execAll (List.replicate k .txnAdv) s = .next t ∧ t.arch.txn.toNat = k % 15 + 1) ∧
  ∀ s : State, s.arch.txn ≠ 0 →
    ∃ t, execAll (List.replicate 15 .txnAdv) s = .next t ∧ t.arch.txn = s.arch.txn

/-- From reset the `k`-th `SND_DATA` uses the number `((k - 1) mod 15) + 1` (R224), whatever is sent. -/
def Obligations.SendsUseTheNumbersInOrder : Prop :=
  ∀ (before : List (Byte × Nibble × Byte × List Byte)) (addr : Byte) (cmd : Nibble) (noz : Byte) (xp : List Byte),
    (∀ o ∈ before, o.2.2.2.length ≤ 254) → xp.length ≤ 254 →
    ∃ t frame ok,
      execAll (before.map (fun o => .sndData o.1 o.2.1 o.2.2.1 o.2.2.2) ++ [.sndData addr cmd noz xp]) State.reset = .next t ∧
      t.result = .sent frame ok (BitVec.ofNat 4 (before.length % 15 + 1))

/-- What advances the number (R223): `TXN_ADV`, `TXN_TAKE`, a successful `SND_DATA`; `RESET` sets it to 1; nothing else touches it. -/
def Obligations.OnlySendsAndSequencerAdvanceTxn : Prop :=
  ∀ (i : Instr) (s t : State), exec i s = .next t →
    t.arch.txn =
      match i with
      | .txnAdv | .txnTake => if s.arch.txn = 15 then 1 else s.arch.txn + 1
      | .sndData _ _ _ xp => if 254 < xp.length then s.arch.txn else if s.arch.txn = 15 then 1 else s.arch.txn + 1
      | .reset => 1
      | _ => s.arch.txn

/-! ### The whole machine -/

/-- No stimulus traps, throws or halts (R230): every instruction answers a next state from every state, and a returned failure other
than RxOverflow, which also ends the receive (R174, R240), changes nothing but `err_code`. Two parts are the model's choice: the next
state of `RX_BYTE` outside ACTIVE, where R173 and R188 say no step (log 4), and that the seven format rows, which are no stimuli, are
performed at all (log 3). -/
def Obligations.NoStimulusTraps : Prop :=
  ∀ (i : Instr) (s : State), ∃ t, exec i s = .next t ∧
    ∀ f, t.result = .failed f → t.arch.errCode = f.name.code ∧
      (f ≠ .rxOverflow → t = { s with arch := { s.arch with errCode := f.name.code }, result := .failed f })

/-- `err_code` holds the outcome of the most recent stimulus and is only the copy of its result (R33); `NOP`, `RX_BYTE` while
`rx_ready` is false and `RX_TICK` outside ACTIVE leave it. -/
def Obligations.ErrCodeIsTheOutcomeOfTheLastStimulus : Prop :=
  ∀ (i : Instr) (s t : State), exec i s = .next t →
    (keepsErrCode i s.arch = true → t.arch.errCode = s.arch.errCode) ∧
    (keepsErrCode i s.arch = false → t.arch.errCode = t.result.errName.code)

/-- A failure writes `err_code` and nothing else, but that RxOverflow ends the receive with the byte kept (R240). -/
def Obligations.FailuresChangeNothingElse : Prop :=
  ∀ (i : Instr) (s t : State), exec i s = .next t → t.arch.errCode ≠ 0 →
    t.arch = { s.arch with errCode := t.arch.errCode } ∨
    ∃ b, i = .rxByte b ∧ t.arch = { s.arch with
      rxbuf := s.arch.rxbuf ++ [b], tSilence := 0, rxState := .done, rxReason := .overflow, errCode := 8 }

/-- Each state element is written only by the stimuli R21 lists for it, and by `RESET` (R260). -/
def Obligations.ElementsAreWrittenOnlyByTheirStimuli : Prop :=
  ∀ (i : Instr) (s t : State), exec i s = .next t → i ≠ .reset →
    (t.arch.crc ≠ s.arch.crc → i = .crcClr ∨ ∃ b, i = .crcUpd b) ∧
    (t.arch.txn ≠ s.arch.txn → i = .txnAdv ∨ i = .txnTake ∨ ∃ addr cmd noz xp, i = .sndData addr cmd noz xp) ∧
    (t.arch.rxState ≠ s.arch.rxState ∨ t.arch.rxReason ≠ s.arch.rxReason ∨ t.arch.tSilence ≠ s.arch.tSilence →
      (∃ addr total, i = .rxStart addr total) ∨ (∃ b, i = .rxByte b) ∨ i = .rxTick) ∧
    (t.arch.rxbuf ≠ s.arch.rxbuf → (∃ addr total, i = .rxStart addr total) ∨ ∃ b, i = .rxByte b) ∧
    (t.arch.rxAddr ≠ s.arch.rxAddr ∨ t.arch.rxTotal ≠ s.arch.rxTotal → ∃ addr total, i = .rxStart addr total) ∧
    (t.arch.tTotal ≠ s.arch.tTotal → (∃ addr total, i = .rxStart addr total) ∨ i = .rxTick) ∧
    (t.arch.txbuf ≠ s.arch.txbuf → (∃ addr, i = .bldPoll addr) ∨ (∃ addr tx, i = .bldAck addr tx) ∨
      (∃ addr tx, i = .bldNack addr tx) ∨ (∃ addr cmd noz tx xp, i = .bldData addr cmd noz tx xp) ∨
      ∃ addr cmd noz xp, i = .sndData addr cmd noz xp)

/-- Nothing survives from one stimulus to the next but the twelve elements of R21 (R20): what a stimulus does to them and returns
depends on them and the instance's configuration alone, not on the last result nor on what is offered next. -/
def Obligations.NothingElseSurvivesAStimulus : Prop :=
  ∀ (i : Instr) (s s' t t' : State), s.arch = s'.arch → s.cfg = s'.cfg → exec i s = .next t → exec i s' = .next t' →
    t.arch = t'.arch ∧ t.result = t'.result

/-- No stimulus and no step writes the configuration (R263). That performing a stimulus does not touch the inputs after it is about the
model's own port `pending` (the model's choice, log 1), of which R263 says nothing. -/
def Obligations.ConfigurationIsConstant : Prop :=
  (∀ (i : Instr) (s t : State), exec i s = .next t → t.cfg = s.cfg ∧ t.pending = s.pending) ∧
  ∀ s t : State, step s = .next t → t.cfg = s.cfg

/-- The invariants of R36 hold after reset, with the default parameters (log 6). -/
def Obligations.ResetMeetsTheInvariants : Prop :=
  State.reset.Inv

/-- Every step from a state that meets the invariants of R36 leads to one that does, for every valid configuration and every
input. -/
def Obligations.EveryStepKeepsTheInvariants : Prop :=
  ∀ s t : State, s.Inv → step s = .next t → t.Inv
end

