-- ==== Sys2Proof/Laws/State.lean ====
section
/-! SUPPORT. One lemma per field per update of the state, each true by rfl. -/

namespace Sys2Proof.Machine

/-! ### `rxAppend` -/

@[simp] theorem rxAppend_crc (b : Byte) (a : Arch) : (rxAppend b a).crc = a.crc := rfl
@[simp] theorem rxAppend_txn (b : Byte) (a : Arch) : (rxAppend b a).txn = a.txn := rfl
@[simp] theorem rxAppend_rxState (b : Byte) (a : Arch) : (rxAppend b a).rxState = a.rxState := rfl
@[simp] theorem rxAppend_rxbuf (b : Byte) (a : Arch) : (rxAppend b a).rxbuf = a.rxbuf ++ [b] := rfl
@[simp] theorem rxAppend_rxAddr (b : Byte) (a : Arch) : (rxAppend b a).rxAddr = a.rxAddr := rfl
@[simp] theorem rxAppend_rxTotal (b : Byte) (a : Arch) : (rxAppend b a).rxTotal = a.rxTotal := rfl
@[simp] theorem rxAppend_tTotal (b : Byte) (a : Arch) : (rxAppend b a).tTotal = a.tTotal := rfl
@[simp] theorem rxAppend_tSilence (b : Byte) (a : Arch) : (rxAppend b a).tSilence = a.tSilence := rfl
@[simp] theorem rxAppend_rxReason (b : Byte) (a : Arch) : (rxAppend b a).rxReason = a.rxReason := rfl
@[simp] theorem rxAppend_txbuf (b : Byte) (a : Arch) : (rxAppend b a).txbuf = a.txbuf := rfl
@[simp] theorem rxAppend_errCode (b : Byte) (a : Arch) : (rxAppend b a).errCode = a.errCode := rfl

/-! ### `rxTruncate` -/

@[simp] theorem rxTruncate_crc (n : Nat) (a : Arch) : (rxTruncate n a).crc = a.crc := rfl
@[simp] theorem rxTruncate_txn (n : Nat) (a : Arch) : (rxTruncate n a).txn = a.txn := rfl
@[simp] theorem rxTruncate_rxState (n : Nat) (a : Arch) : (rxTruncate n a).rxState = a.rxState := rfl
@[simp] theorem rxTruncate_rxbuf (n : Nat) (a : Arch) : (rxTruncate n a).rxbuf = a.rxbuf.take n := rfl
@[simp] theorem rxTruncate_rxAddr (n : Nat) (a : Arch) : (rxTruncate n a).rxAddr = a.rxAddr := rfl
@[simp] theorem rxTruncate_rxTotal (n : Nat) (a : Arch) : (rxTruncate n a).rxTotal = a.rxTotal := rfl
@[simp] theorem rxTruncate_tTotal (n : Nat) (a : Arch) : (rxTruncate n a).tTotal = a.tTotal := rfl
@[simp] theorem rxTruncate_tSilence (n : Nat) (a : Arch) : (rxTruncate n a).tSilence = a.tSilence := rfl
@[simp] theorem rxTruncate_rxReason (n : Nat) (a : Arch) : (rxTruncate n a).rxReason = a.rxReason := rfl
@[simp] theorem rxTruncate_txbuf (n : Nat) (a : Arch) : (rxTruncate n a).txbuf = a.txbuf := rfl
@[simp] theorem rxTruncate_errCode (n : Nat) (a : Arch) : (rxTruncate n a).errCode = a.errCode := rfl

/-! ### `txLoad` -/

@[simp] theorem txLoad_crc (frame : List Byte) (a : Arch) : (txLoad frame a).crc = a.crc := rfl
@[simp] theorem txLoad_txn (frame : List Byte) (a : Arch) : (txLoad frame a).txn = a.txn := rfl
@[simp] theorem txLoad_rxState (frame : List Byte) (a : Arch) : (txLoad frame a).rxState = a.rxState := rfl
@[simp] theorem txLoad_rxbuf (frame : List Byte) (a : Arch) : (txLoad frame a).rxbuf = a.rxbuf := rfl
@[simp] theorem txLoad_rxAddr (frame : List Byte) (a : Arch) : (txLoad frame a).rxAddr = a.rxAddr := rfl
@[simp] theorem txLoad_rxTotal (frame : List Byte) (a : Arch) : (txLoad frame a).rxTotal = a.rxTotal := rfl
@[simp] theorem txLoad_tTotal (frame : List Byte) (a : Arch) : (txLoad frame a).tTotal = a.tTotal := rfl
@[simp] theorem txLoad_tSilence (frame : List Byte) (a : Arch) : (txLoad frame a).tSilence = a.tSilence := rfl
@[simp] theorem txLoad_rxReason (frame : List Byte) (a : Arch) : (txLoad frame a).rxReason = a.rxReason := rfl
@[simp] theorem txLoad_txbuf (frame : List Byte) (a : Arch) : (txLoad frame a).txbuf = frame := rfl
@[simp] theorem txLoad_errCode (frame : List Byte) (a : Arch) : (txLoad frame a).errCode = a.errCode := rfl

/-! ### `endReceive` -/

@[simp] theorem endReceive_crc (r : RxReason) (a : Arch) : (endReceive r a).crc = a.crc := rfl
@[simp] theorem endReceive_txn (r : RxReason) (a : Arch) : (endReceive r a).txn = a.txn := rfl
@[simp] theorem endReceive_rxState (r : RxReason) (a : Arch) : (endReceive r a).rxState = .done := rfl
@[simp] theorem endReceive_rxbuf (r : RxReason) (a : Arch) : (endReceive r a).rxbuf = a.rxbuf := rfl
@[simp] theorem endReceive_rxAddr (r : RxReason) (a : Arch) : (endReceive r a).rxAddr = a.rxAddr := rfl
@[simp] theorem endReceive_rxTotal (r : RxReason) (a : Arch) : (endReceive r a).rxTotal = a.rxTotal := rfl
@[simp] theorem endReceive_tTotal (r : RxReason) (a : Arch) : (endReceive r a).tTotal = a.tTotal := rfl
@[simp] theorem endReceive_tSilence (r : RxReason) (a : Arch) : (endReceive r a).tSilence = a.tSilence := rfl
@[simp] theorem endReceive_rxReason (r : RxReason) (a : Arch) : (endReceive r a).rxReason = r := rfl
@[simp] theorem endReceive_txbuf (r : RxReason) (a : Arch) : (endReceive r a).txbuf = a.txbuf := rfl
@[simp] theorem endReceive_errCode (r : RxReason) (a : Arch) : (endReceive r a).errCode = a.errCode := rfl

/-! ### `advanceTxn` -/

@[simp] theorem advanceTxn_crc (a : Arch) : (advanceTxn a).crc = a.crc := rfl
@[simp] theorem advanceTxn_txn (a : Arch) : (advanceTxn a).txn = txnNext a.txn := rfl
@[simp] theorem advanceTxn_rxState (a : Arch) : (advanceTxn a).rxState = a.rxState := rfl
@[simp] theorem advanceTxn_rxbuf (a : Arch) : (advanceTxn a).rxbuf = a.rxbuf := rfl
@[simp] theorem advanceTxn_rxAddr (a : Arch) : (advanceTxn a).rxAddr = a.rxAddr := rfl
@[simp] theorem advanceTxn_rxTotal (a : Arch) : (advanceTxn a).rxTotal = a.rxTotal := rfl
@[simp] theorem advanceTxn_tTotal (a : Arch) : (advanceTxn a).tTotal = a.tTotal := rfl
@[simp] theorem advanceTxn_tSilence (a : Arch) : (advanceTxn a).tSilence = a.tSilence := rfl
@[simp] theorem advanceTxn_rxReason (a : Arch) : (advanceTxn a).rxReason = a.rxReason := rfl
@[simp] theorem advanceTxn_txbuf (a : Arch) : (advanceTxn a).txbuf = a.txbuf := rfl
@[simp] theorem advanceTxn_errCode (a : Arch) : (advanceTxn a).errCode = a.errCode := rfl

/-! ### `openReceive` -/

@[simp] theorem openReceive_crc (addr : Byte) (total : Word16) (a : Arch) : (openReceive addr total a).crc = a.crc := rfl
@[simp] theorem openReceive_txn (addr : Byte) (total : Word16) (a : Arch) : (openReceive addr total a).txn = a.txn := rfl
@[simp] theorem openReceive_rxState (addr : Byte) (total : Word16) (a : Arch) : (openReceive addr total a).rxState = .active := rfl
@[simp] theorem openReceive_rxbuf (addr : Byte) (total : Word16) (a : Arch) : (openReceive addr total a).rxbuf = [] := rfl
@[simp] theorem openReceive_rxAddr (addr : Byte) (total : Word16) (a : Arch) : (openReceive addr total a).rxAddr = addr := rfl
@[simp] theorem openReceive_rxTotal (addr : Byte) (total : Word16) (a : Arch) : (openReceive addr total a).rxTotal = total := rfl
@[simp] theorem openReceive_tTotal (addr : Byte) (total : Word16) (a : Arch) : (openReceive addr total a).tTotal = 0 := rfl
@[simp] theorem openReceive_tSilence (addr : Byte) (total : Word16) (a : Arch) : (openReceive addr total a).tSilence = 0 := rfl
@[simp] theorem openReceive_rxReason (addr : Byte) (total : Word16) (a : Arch) : (openReceive addr total a).rxReason = .none := rfl
@[simp] theorem openReceive_txbuf (addr : Byte) (total : Word16) (a : Arch) : (openReceive addr total a).txbuf = a.txbuf := rfl
@[simp] theorem openReceive_errCode (addr : Byte) (total : Word16) (a : Arch) : (openReceive addr total a).errCode = a.errCode := rfl

/-! ### `takeByte` -/

@[simp] theorem takeByte_crc (b : Byte) (a : Arch) : (takeByte b a).crc = a.crc := rfl
@[simp] theorem takeByte_txn (b : Byte) (a : Arch) : (takeByte b a).txn = a.txn := rfl
@[simp] theorem takeByte_rxState (b : Byte) (a : Arch) : (takeByte b a).rxState = a.rxState := rfl
@[simp] theorem takeByte_rxbuf (b : Byte) (a : Arch) : (takeByte b a).rxbuf = a.rxbuf ++ [b] := rfl
@[simp] theorem takeByte_rxAddr (b : Byte) (a : Arch) : (takeByte b a).rxAddr = a.rxAddr := rfl
@[simp] theorem takeByte_rxTotal (b : Byte) (a : Arch) : (takeByte b a).rxTotal = a.rxTotal := rfl
@[simp] theorem takeByte_tTotal (b : Byte) (a : Arch) : (takeByte b a).tTotal = a.tTotal := rfl
@[simp] theorem takeByte_tSilence (b : Byte) (a : Arch) : (takeByte b a).tSilence = 0 := rfl
@[simp] theorem takeByte_rxReason (b : Byte) (a : Arch) : (takeByte b a).rxReason = a.rxReason := rfl
@[simp] theorem takeByte_txbuf (b : Byte) (a : Arch) : (takeByte b a).txbuf = a.txbuf := rfl
@[simp] theorem takeByte_errCode (b : Byte) (a : Arch) : (takeByte b a).errCode = a.errCode := rfl

/-! ### `countTick` -/

@[simp] theorem countTick_crc (a : Arch) : (countTick a).crc = a.crc := rfl
@[simp] theorem countTick_txn (a : Arch) : (countTick a).txn = a.txn := rfl
@[simp] theorem countTick_rxState (a : Arch) : (countTick a).rxState = a.rxState := rfl
@[simp] theorem countTick_rxbuf (a : Arch) : (countTick a).rxbuf = a.rxbuf := rfl
@[simp] theorem countTick_rxAddr (a : Arch) : (countTick a).rxAddr = a.rxAddr := rfl
@[simp] theorem countTick_rxTotal (a : Arch) : (countTick a).rxTotal = a.rxTotal := rfl
@[simp] theorem countTick_tTotal (a : Arch) : (countTick a).tTotal = a.tTotal + 1 := rfl
@[simp] theorem countTick_tSilence (a : Arch) : (countTick a).tSilence = a.tSilence + 1 := rfl
@[simp] theorem countTick_rxReason (a : Arch) : (countTick a).rxReason = a.rxReason := rfl
@[simp] theorem countTick_txbuf (a : Arch) : (countTick a).txbuf = a.txbuf := rfl
@[simp] theorem countTick_errCode (a : Arch) : (countTick a).errCode = a.errCode := rfl

/-! ### `finish` -/

@[simp] theorem finish_cfg (a : Arch) (e : ErrName) (r : Result) (s : State) :
    (finish a e r s).cfg = s.cfg := rfl
@[simp] theorem finish_arch (a : Arch) (e : ErrName) (r : Result) (s : State) :
    (finish a e r s).arch = { a with errCode := e.code } := rfl
@[simp] theorem finish_pending (a : Arch) (e : ErrName) (r : Result) (s : State) :
    (finish a e r s).pending = s.pending := rfl
@[simp] theorem finish_result (a : Arch) (e : ErrName) (r : Result) (s : State) :
    (finish a e r s).result = r := rfl

/-! ### `succeed` -/

@[simp] theorem succeed_cfg (a : Arch) (r : Result) (s : State) :
    (succeed a r s).cfg = s.cfg := rfl
@[simp] theorem succeed_arch (a : Arch) (r : Result) (s : State) :
    (succeed a r s).arch = { a with errCode := 0 } := rfl
@[simp] theorem succeed_pending (a : Arch) (r : Result) (s : State) :
    (succeed a r s).pending = s.pending := rfl
@[simp] theorem succeed_result (a : Arch) (r : Result) (s : State) :
    (succeed a r s).result = r := rfl

/-! ### `raiseFailure` -/

@[simp] theorem raiseFailure_cfg (f : Failure) (s : State) :
    (raiseFailure f s).cfg = s.cfg := rfl
@[simp] theorem raiseFailure_arch (f : Failure) (s : State) :
    (raiseFailure f s).arch = { s.arch with errCode := f.name.code } := rfl
@[simp] theorem raiseFailure_pending (f : Failure) (s : State) :
    (raiseFailure f s).pending = s.pending := rfl
@[simp] theorem raiseFailure_result (f : Failure) (s : State) :
    (raiseFailure f s).result = .failed f := rfl

/-! ### `unchanged` -/

@[simp] theorem unchanged_cfg (r : Result) (s : State) :
    (unchanged r s).cfg = s.cfg := rfl
@[simp] theorem unchanged_arch (r : Result) (s : State) :
    (unchanged r s).arch = s.arch := rfl
@[simp] theorem unchanged_pending (r : Result) (s : State) :
    (unchanged r s).pending = s.pending := rfl
@[simp] theorem unchanged_result (r : Result) (s : State) :
    (unchanged r s).result = r := rfl

/-! ### `illegalStimulus` -/

@[simp] theorem illegalStimulus_cfg (code : Byte) (s : State) :
    (illegalStimulus code s).cfg = s.cfg := rfl
@[simp] theorem illegalStimulus_arch (code : Byte) (s : State) :
    (illegalStimulus code s).arch = { s.arch with errCode := 9 } := rfl
@[simp] theorem illegalStimulus_pending (code : Byte) (s : State) :
    (illegalStimulus code s).pending = s.pending := rfl
@[simp] theorem illegalStimulus_result (code : Byte) (s : State) :
    (illegalStimulus code s).result = .failed (.illegalStimulus code) := rfl

/-! ### `buildFrame` -/

@[simp] theorem buildFrame_cfg (frame : List Byte) (addr : Byte) (s : State) :
    (buildFrame frame addr s).cfg = s.cfg := rfl
@[simp] theorem buildFrame_arch (frame : List Byte) (addr : Byte) (s : State) :
    (buildFrame frame addr s).arch = { s.arch with txbuf := frame, errCode := 0 } := rfl
@[simp] theorem buildFrame_pending (frame : List Byte) (addr : Byte) (s : State) :
    (buildFrame frame addr s).pending = s.pending := rfl
@[simp] theorem buildFrame_result (frame : List Byte) (addr : Byte) (s : State) :
    (buildFrame frame addr s).result = .frame frame (addrOk addr) := rfl

/-! ### `decodeSequence` -/

@[simp] theorem decodeSequence_cfg (bytes : List Byte) (s : State) :
    (decodeSequence bytes s).cfg = s.cfg := rfl
@[simp] theorem decodeSequence_arch (bytes : List Byte) (s : State) :
    (decodeSequence bytes s).arch = { s.arch with errCode := (decodeFrame bytes).errName.code } := rfl
@[simp] theorem decodeSequence_pending (bytes : List Byte) (s : State) :
    (decodeSequence bytes s).pending = s.pending := rfl
@[simp] theorem decodeSequence_result (bytes : List Byte) (s : State) :
    (decodeSequence bytes s).result = .decoded (decodeFrame bytes) := rfl

/-! ### `offer` -/

@[simp] theorem offer_cfg (inp : Input) (s : State) :
    (offer inp s).cfg = s.cfg := rfl
@[simp] theorem offer_arch (inp : Input) (s : State) :
    (offer inp s).arch = s.arch := rfl
@[simp] theorem offer_pending (inp : Input) (s : State) :
    (offer inp s).pending = inp :: s.pending := rfl
@[simp] theorem offer_result (inp : Input) (s : State) :
    (offer inp s).result = s.result := rfl

end Sys2Proof.Machine
end

