-- ==== Sys2Proof/Laws/Ops.lean ====
section
/-! SUPPORT. What the shared operations can do, said once: operand fields, the buffers' form, the noise search, the ends of a receive. -/

namespace Sys2Proof.Machine

/-! ### Operand fields -/

@[simp] theorem nibbleOf?_nibbleByte (n : Nibble) : nibbleOf? (nibbleByte n) = some n := by
  revert n; decide

@[simp] theorem wordOf_lowByte_highByte (v : Word16) : wordOf (lowByte v) (highByte v) = v := by
  ext i hi
  by_cases h : i < 8
  · simp [wordOf, lowByte, highByte, hi, h]
  · have h8 : i - 8 < 8 := by omega
    have hback : 8 + (i - 8) = i := by omega
    simp [wordOf, lowByte, highByte, hi, h, h8, hback]

@[simp] theorem lowByte_wordOf (lo hi : Byte) : lowByte (wordOf lo hi) = lo := by
  ext i h
  have h16 : i < 16 := by omega
  simp [wordOf, lowByte, h, h16]

@[simp] theorem highByte_wordOf (lo hi : Byte) : highByte (wordOf lo hi) = hi := by
  ext i h
  have h16 : 8 + i < 16 := by omega
  simp [wordOf, highByte, h, h16]

/-- The three fields of a packed control byte (R73). -/
theorem packControl_fields (m : BitVec 1) (t : BitVec 3) (c : Nibble) :
    ctrlMaster (packControl m t c) = m.getLsbD 0 ∧ ctrlTx3 (packControl m t c) = t ∧ ctrlCode (packControl m t c) = c := by
  revert m t c; decide

/-- The three fields of a control byte the encoder assembles (R74): bit 3 of the transaction number is lost. -/
theorem controlByte_fields (tx code : Nibble) :
    ctrlMaster (controlByte tx code) = true ∧ ctrlTx3 (controlByte tx code) = tx.setWidth 3 ∧
      ctrlCode (controlByte tx code) = code := by
  revert tx code; decide

/-- The assembled control byte is the wire pattern `1tttcccc` of the opcode table (R73, R74). -/
theorem controlByte_eq_wireControl (tx code : Nibble) : controlByte tx code = wireControl (tx.setWidth 3) code := by
  revert tx code; decide

/-! ### The buffers keep their form -/

theorem reset_memory_wf : Memory.wf Config.default Arch.reset := by decide

theorem rxAppend_memory_wf {c : Config} {a : Arch} (b : Byte) (h : Memory.wf c a) (room : a.rxLen < c.rxCap) :
    Memory.wf c (rxAppend b a) := by
  refine ⟨?_, h.2⟩
  simp only [Arch.rxLen, rxAppend_rxbuf, List.length_append, List.length_singleton] at *
  omega

theorem rxTruncate_memory_wf {c : Config} {a : Arch} (n : Nat) (h : Memory.wf c a) : Memory.wf c (rxTruncate n a) := by
  refine ⟨?_, h.2⟩
  have := h.1
  simp only [Arch.rxLen, rxTruncate_rxbuf, List.length_take] at *
  omega

theorem txLoad_memory_wf {c : Config} {a : Arch} (frame : List Byte) (h : Memory.wf c a) (fits : frame.length ≤ Config.txCap) :
    Memory.wf c (txLoad frame a) :=
  ⟨h.1, fits⟩

theorem openReceive_memory_wf {c : Config} {a : Arch} (addr : Byte) (total : Word16) (h : Memory.wf c a) :
    Memory.wf c (openReceive addr total a) :=
  ⟨Nat.zero_le _, h.2⟩

theorem shortFrame_length (addr control : Byte) : (shortFrame addr control).length = 3 := rfl

theorem dataFrame_length (addr control opc : Byte) (xp : List Byte) :
    (dataFrame addr control opc xp).length = 8 + xp.length := by
  simp [dataFrame, closeFrame, dataSpan]; omega

/-! ### Reads of one byte -/

/-- A byte already stored reads as before an append, the new one at the old length (R51). -/
theorem rxRead_rxAppend (a : Arch) (b : Byte) (i : Nat) :
    (rxAppend b a).rxRead i = if i < a.rxLen then a.rxRead i else if i = a.rxLen then some b else none := by
  simp only [Arch.rxRead, rxAppend_rxbuf, Arch.rxLen]
  rcases Nat.lt_trichotomy i a.rxbuf.length with h | h | h
  · simp [h, List.getElem?_append_left h]
  · simp [h]
  · have hlen : (a.rxbuf ++ [b]).length ≤ i := by simp; omega
    simp [List.getElem?_eq_none hlen, Nat.not_lt_of_gt h, Nat.ne_of_gt h]

/-- Below the new length a truncation changes no byte (R30). -/
theorem rxRead_rxTruncate (a : Arch) (n i : Nat) : (rxTruncate n a).rxRead i = if i < n then a.rxRead i else none := by
  simp [Arch.rxRead, List.getElem?_take]

/-! ### The noise search -/

/-- What `findRun` answers: the least offset at which a run starts, counted from `p` (R182). -/
theorem findRun_eq_some {a : Byte} {buf : List Byte} {p q : Nat} (h : findRun a buf p = some q) :
    p ≤ q ∧ q - p < buf.length ∧ noiseRun a <+: buf.drop (q - p) ∧ ∀ k < q - p, ¬ noiseRun a <+: buf.drop k := by
  induction buf generalizing p with
  | nil => simp [findRun] at h
  | cons b bs ih =>
    simp only [findRun] at h
    split at h
    · rename_i hrun
      obtain rfl := Option.some.inj h
      simpa using hrun
    · rename_i hrun
      obtain ⟨hle, hlt, hpre, hmin⟩ := ih h
      have hq : q - p = (q - (p + 1)) + 1 := by omega
      refine ⟨by omega, by simp; omega, by rw [hq]; simpa using hpre, ?_⟩
      intro k hk
      cases k with
      | zero => simpa using hrun
      | succ k => simpa using hmin k (by omega)

/-- `findRun` answers nothing exactly when no run starts anywhere. -/
theorem findRun_eq_none {a : Byte} {buf : List Byte} {p : Nat} (h : findRun a buf p = none) :
    ∀ k, ¬ noiseRun a <+: buf.drop k := by
  induction buf generalizing p with
  | nil =>
    intro k
    simp [noiseRun, noisePattern, Config.repeats]
  | cons b bs ih =>
    simp only [findRun] at h
    split at h
    · cases h
    · rename_i hrun
      intro k
      cases k with
      | zero => simpa using hrun
      | succ k => simpa using ih h k

/-- A collapse keeps at least one byte and never more than the buffer holds. -/
theorem collapse_bounds {buf : List Byte} {a : Byte} {r : Nat} (h : collapse buf a = some r) : 1 ≤ r ∧ r ≤ buf.length := by
  simp only [collapse] at h
  split at h
  · rename_i p hp
    obtain ⟨-, hlt, hpre, -⟩ := findRun_eq_some hp
    have hlen := hpre.length_le
    simp [noiseRun, noisePattern, Config.repeats] at hlen
    obtain rfl := Option.some.inj h
    split <;> simp_all [Config.patternLen] <;> omega
  · cases h

/-! ### What a receive step can do -/

/-- Everything an accepted byte can do (R173): the noise rule, overflow, or the byte alone. -/
theorem acceptByte_cases (b : Byte) (s : State) :
    (∃ r, collapse (s.arch.rxbuf ++ [b]) s.arch.rxAddr = some r ∧
      acceptByte b s = succeed (endReceive .noiseCollapsed (rxTruncate r (takeByte b s.arch))) .noResult s) ∨
    (collapse (s.arch.rxbuf ++ [b]) s.arch.rxAddr = none ∧ s.arch.rxLen + 1 = s.cfg.rxCap ∧
      acceptByte b s = finish (endReceive .overflow (takeByte b s.arch)) .rxOverflow (.failed .rxOverflow) s) ∨
    (collapse (s.arch.rxbuf ++ [b]) s.arch.rxAddr = none ∧ s.arch.rxLen + 1 ≠ s.cfg.rxCap ∧
      acceptByte b s = succeed (takeByte b s.arch) .noResult s) := by
  have hlen : (takeByte b s.arch).rxLen = s.arch.rxLen + 1 := by simp [Arch.rxLen]
  simp only [acceptByte, takeByte_rxbuf, takeByte_rxAddr, hlen]
  split
  · rename_i r hr
    exact .inl ⟨r, hr, rfl⟩
  · rename_i hn
    split
    · rename_i hc
      exact .inr (.inl ⟨hn, hc, rfl⟩)
    · rename_i hc
      exact .inr (.inr ⟨hn, hc, rfl⟩)

/-- The reasons a tick can end a receive with, and what each needs (R177 to R179, R181). -/
theorem tickReason_eq_some {c : Config} {a : Arch} {r : RxReason} (h : tickReason c a = some r) :
    (r = .totalTimeout ∧ a.rxTotal < a.tTotal) ∨
    (r = .stopConfirmed ∧ a.tTotal ≤ a.rxTotal ∧ 8 ≤ a.rxLen ∧ c.confirmTicks ≤ a.tSilence.toNat) ∨
    (r = .silence ∧ a.tTotal ≤ a.rxTotal ∧ 1 ≤ a.rxLen ∧ c.quietTicks ≤ a.tSilence.toNat) := by
  simp only [tickReason] at h
  split at h
  · rename_i h1
    exact .inl ⟨(Option.some.inj h).symm, h1⟩
  · rename_i h1
    have hle : a.tTotal ≤ a.rxTotal := BitVec.not_lt.mp h1
    split at h
    · rename_i h2
      have h8 : 8 ≤ a.rxLen := by
        have hend := h2.1
        simp only [Arch.candEnd, candidateEnd, Bool.and_eq_true, decide_eq_true_eq] at hend
        exact hend.1
      exact .inr (.inl ⟨(Option.some.inj h).symm, hle, h8, h2.2⟩)
    · split at h
      · rename_i h3
        exact .inr (.inr ⟨(Option.some.inj h).symm, hle, h3.1, h3.2⟩)
      · cases h

/-- A tick that ends nothing leaves `t_total` within `rx_total`. -/
theorem tickReason_eq_none {c : Config} {a : Arch} (h : tickReason c a = none) : a.tTotal ≤ a.rxTotal := by
  simp only [tickReason] at h
  split at h
  · cases h
  · rename_i h1
    exact BitVec.not_lt.mp h1

/-- Everything a tick while ACTIVE can do (R177). -/
theorem activeTick_cases (s : State) :
    (∃ r, tickReason s.cfg (countTick s.arch) = some r ∧
      activeTick s = succeed (endReceive r (countTick s.arch)) .noResult s) ∨
    (tickReason s.cfg (countTick s.arch) = none ∧ activeTick s = succeed (countTick s.arch) .noResult s) := by
  simp only [activeTick]
  split
  · rename_i r hr
    exact .inl ⟨r, hr, rfl⟩
  · rename_i hn
    exact .inr ⟨hn, rfl⟩

/-! ### Sequencer -/

/-- The successor of a legal transaction number is legal, and 0 is never produced (R26, R221). -/
theorem txnNext_range (t : Nibble) : 1 ≤ (txnNext t).toNat ∧ (txnNext t).toNat ≤ 15 := by
  revert t; decide

end Sys2Proof.Machine
end

