-- ==== Sys2Proof/Laws/PerInstr.lean ====
section
/-! SUPPORT. For every instruction: its encoding carries the row's match under the row's mask (spec/opcode_table.json). -/

namespace Sys2Proof.Laws

open Sys2Proof.Machine

/-- The row's match and mask in spec/opcode_table.json. -/
def OpcodeRow.matchMask : Instr → Byte × Byte
  | .nop => (0x00, 0xFF)
  | .crcClr => (0x10, 0xFF)
  | .crcUpd _ => (0x11, 0xFF)
  | .crcRd => (0x12, 0xFF)
  | .crcBlk _ => (0x13, 0xFF)
  | .crcChk _ => (0x14, 0xFF)
  | .bldPoll _ => (0x20, 0xFF)
  | .bldAck _ _ => (0x21, 0xFF)
  | .bldNack _ _ => (0x22, 0xFF)
  | .bldData _ _ _ _ _ => (0x23, 0xFF)
  | .sndData _ _ _ _ => (0x24, 0xFF)
  | .decFrame _ => (0x30, 0xFF)
  | .rxStart _ _ => (0x40, 0xFF)
  | .rxByte _ => (0x41, 0xFF)
  | .rxTick => (0x42, 0xFF)
  | .rxRd => (0x43, 0xFF)
  | .unpCtrl _ => (0x50, 0xFF)
  | .unpOpc _ => (0x51, 0xFF)
  | .unpStat _ => (0x52, 0xFF)
  | .bcdConv _ => (0x53, 0xFF)
  | .txnRd => (0x60, 0xFF)
  | .txnAdv => (0x61, 0xFF)
  | .txnTake => (0x62, 0xFF)
  | .reset => (0xFF, 0xFF)
  | .framePoll _ => (0x81, 0xFF)
  | .frameAck _ _ => (0x82, 0x8F)
  | .frameNack _ _ => (0x83, 0x8F)
  | .frameData _ _ _ _ => (0x84, 0x8F)
  | .fieldControl _ _ _ | .fieldOpc _ _ | .fieldStatus _ _ _ _ _ => (0x00, 0x00)

/-- The byte of an input that the table's pattern describes: the code of a stimulus, the control byte (byte 1) of a wire frame, the
byte itself of a layout. -/
def OpcodeRow.byteOf (inp : Input) : Option Byte :=
  match inp.space with
  | .wire => inp.bytes[1]?
  | _ => inp.bytes[0]?

/-- The instruction's encoding has the byte its row describes, and that byte matches the row. -/
def OpcodeRow.Statement (i : Instr) : Prop :=
  ∃ b, OpcodeRow.byteOf (encode i) = some b ∧ b &&& (OpcodeRow.matchMask i).2 = (OpcodeRow.matchMask i).1

/-- The control bytes on the wire match the table's patterns `1ttt0010`, `1ttt0011`, `1ttt0100`. -/
theorem OpcodeRow.wireControl_match (t : BitVec 3) :
    wireControl t Config.ccAck &&& 0x8F = 0x82 ∧ wireControl t Config.ccNack &&& 0x8F = 0x83 ∧
      wireControl t Config.ccData &&& 0x8F = 0x84 := by
  revert t; decide

/-- A row's statement from its byte, its match and its mask. -/
theorem OpcodeRow.of_byte {i : Instr} {b m k : Byte} (hb : OpcodeRow.byteOf (encode i) = some b)
    (hrow : OpcodeRow.matchMask i = (m, k)) (hmatch : b &&& k = m) : OpcodeRow.Statement i :=
  ⟨b, hb, by rw [hrow]; exact hmatch⟩

namespace OpcodeRow

theorem nop : Statement .nop := of_byte rfl rfl rfl
theorem crcClr : Statement .crcClr := of_byte rfl rfl rfl
theorem crcUpd (b : Byte) : Statement (.crcUpd b) := of_byte rfl rfl rfl
theorem crcRd : Statement .crcRd := of_byte rfl rfl rfl
theorem crcBlk (bytes : List Byte) : Statement (.crcBlk bytes) := of_byte rfl rfl rfl
theorem crcChk (bytes : List Byte) : Statement (.crcChk bytes) := of_byte rfl rfl rfl
theorem bldPoll (addr : Byte) : Statement (.bldPoll addr) := of_byte rfl rfl rfl
theorem bldAck (addr : Byte) (tx : Nibble) : Statement (.bldAck addr tx) := of_byte rfl rfl rfl
theorem bldNack (addr : Byte) (tx : Nibble) : Statement (.bldNack addr tx) := of_byte rfl rfl rfl
theorem bldData (addr : Byte) (cmd : Nibble) (noz : Byte) (tx : Nibble) (xp : List Byte) :
    Statement (.bldData addr cmd noz tx xp) := of_byte rfl rfl rfl
theorem sndData (addr : Byte) (cmd : Nibble) (noz : Byte) (xp : List Byte) : Statement (.sndData addr cmd noz xp) :=
  of_byte rfl rfl rfl
theorem decFrame (bytes : List Byte) : Statement (.decFrame bytes) := of_byte rfl rfl rfl
theorem rxStart (addr : Byte) (total : Word16) : Statement (.rxStart addr total) := of_byte rfl rfl rfl
theorem rxByte (b : Byte) : Statement (.rxByte b) := of_byte rfl rfl rfl
theorem rxTick : Statement .rxTick := of_byte rfl rfl rfl
theorem rxRd : Statement .rxRd := of_byte rfl rfl rfl
theorem unpCtrl (c : Byte) : Statement (.unpCtrl c) := of_byte rfl rfl rfl
theorem unpOpc (o : Byte) : Statement (.unpOpc o) := of_byte rfl rfl rfl
theorem unpStat (st : Byte) : Statement (.unpStat st) := of_byte rfl rfl rfl
theorem bcdConv (bytes : List Byte) : Statement (.bcdConv bytes) := of_byte rfl rfl rfl
theorem txnRd : Statement .txnRd := of_byte rfl rfl rfl
theorem txnAdv : Statement .txnAdv := of_byte rfl rfl rfl
theorem txnTake : Statement .txnTake := of_byte rfl rfl rfl
theorem reset : Statement .reset := of_byte rfl rfl rfl
theorem framePoll (addr : Byte) : Statement (.framePoll addr) := of_byte rfl rfl rfl
theorem frameAck (addr : Byte) (tx3 : BitVec 3) : Statement (.frameAck addr tx3) := of_byte rfl rfl (wireControl_match tx3).1
theorem frameNack (addr : Byte) (tx3 : BitVec 3) : Statement (.frameNack addr tx3) := of_byte rfl rfl (wireControl_match tx3).2.1
theorem frameData (addr : Byte) (tx3 : BitVec 3) (opc : Byte) (xp : List Byte) : Statement (.frameData addr tx3 opc xp) :=
  of_byte rfl rfl (wireControl_match tx3).2.2
theorem fieldControl (m : BitVec 1) (t : BitVec 3) (c : Nibble) : Statement (.fieldControl m t c) := of_byte rfl rfl BitVec.and_zero
theorem fieldOpc (h n : Nibble) : Statement (.fieldOpc h n) := of_byte rfl rfl BitVec.and_zero
theorem fieldStatus (u e f n : BitVec 1) (code : Nibble) : Statement (.fieldStatus u e f n code) := of_byte rfl rfl BitVec.and_zero

end OpcodeRow

end Sys2Proof.Laws
end

