-- ==== Sys2Proof/Tests/Slice0.lean ====
section
/-! SUPPORT. The model's own tests: the check of WellFormed, words written out from the spec's encodings, small vectors of
spec/95_test_vectors.md, and for every statement with hypotheses a state and operands that meet them. -/

namespace Sys2Proof.Tests

open Sys2Proof.Machine

-- The tests are elaborated one after another: each waits for the kernel, and together they would ask for a thread each.
set_option Elab.async false

/-! ### Helpers -/

/-- Whether `exec` answers a next state with a property. -/
def answers (i : Instr) (s : State) (p : State → Bool) : Bool :=
  match exec i s with
  | .next t => p t
  | _ => false

/-- A machine that is receiving for pump 0x50 with a total of 500 ticks and these bytes in `RXBUF`. -/
def receiving (buf : List Byte) : State :=
  { State.reset with arch := { Arch.reset with rxState := .active, rxAddr := 0x50, rxTotal := 500, rxbuf := buf } }

/-- The same with both timers at given values. -/
def ticking (buf : List Byte) (total silence : Word16) : State :=
  { receiving buf with arch := { (receiving buf).arch with tTotal := total, tSilence := silence } }

/-- A receive that has ended. -/
def ended (buf : List Byte) (r : RxReason) : State :=
  { receiving buf with arch := { (receiving buf).arch with rxState := .done, rxReason := r } }

/-- A machine whose sequencer holds a number. -/
def withTxn (n : Nibble) : State := { State.reset with arch := { Arch.reset with txn := n } }

/-- The machine after reset with inputs offered. -/
def offered (inputs : List Input) : State := { State.reset with pending := inputs }

/-- An instance with another receive capacity (V5.12, V5.13). -/
def withCap (n : Nat) (s : State) : State := { s with cfg := { s.cfg with rxCap := n } }

/-! ### WellFormed: the ill-formed frame is refused, the longest one is not (R72) -/

theorem test_wellFormed_refuses_255_bytes : (Instr.frameData 0x50 1 0x11 (List.replicate 255 0)).wellFormed = false := by decide +kernel
theorem test_wellFormed_accepts_254_bytes : (Instr.frameData 0x50 1 0x11 (List.replicate 254 0)).wellFormed = true := by decide +kernel

/-! ### Decoding: codes of R86, operands in the model's layout (log 2) -/

theorem test_decode_nop : decode ⟨.stimulus, [0x00]⟩ = .ok .nop := rfl
theorem test_decode_crcClr : decode ⟨.stimulus, [0x10]⟩ = .ok .crcClr := rfl
theorem test_decode_crcUpd : decode ⟨.stimulus, [0x11, 0x52]⟩ = .ok (.crcUpd 0x52) := rfl
theorem test_decode_crcRd : decode ⟨.stimulus, [0x12]⟩ = .ok .crcRd := rfl
theorem test_decode_crcBlk : decode ⟨.stimulus, [0x13, 0x31, 0x32]⟩ = .ok (.crcBlk [0x31, 0x32]) := rfl
theorem test_decode_crcChk : decode ⟨.stimulus, [0x14, 0x01, 0x89, 0x11]⟩ = .ok (.crcChk [0x01, 0x89, 0x11]) := rfl
theorem test_decode_bldPoll : decode ⟨.stimulus, [0x20, 0x50]⟩ = .ok (.bldPoll 0x50) := rfl
theorem test_decode_bldAck : decode ⟨.stimulus, [0x21, 0x6F, 0x0F]⟩ = .ok (.bldAck 0x6F 15) := rfl
theorem test_decode_bldNack : decode ⟨.stimulus, [0x22, 0x50, 0x07]⟩ = .ok (.bldNack 0x50 7) := rfl
theorem test_decode_bldData :
    decode ⟨.stimulus, [0x23, 0x6F, 0x0F, 0x1F, 0x0E, 0x12, 0x34]⟩ = .ok (.bldData 0x6F 15 0x1F 14 [0x12, 0x34]) := rfl
theorem test_decode_sndData : decode ⟨.stimulus, [0x24, 0x50, 0x01, 0x02]⟩ = .ok (.sndData 0x50 1 2 []) := rfl
theorem test_decode_decFrame : decode ⟨.stimulus, [0x30, 0x50, 0x92, 0xFA]⟩ = .ok (.decFrame [0x50, 0x92, 0xFA]) := rfl
theorem test_decode_rxStart : decode ⟨.stimulus, [0x40, 0x50, 0xF4, 0x01]⟩ = .ok (.rxStart 0x50 500) := rfl
theorem test_decode_rxByte : decode ⟨.stimulus, [0x41, 0xFA]⟩ = .ok (.rxByte 0xFA) := rfl
theorem test_decode_rxTick : decode ⟨.stimulus, [0x42]⟩ = .ok .rxTick := rfl
theorem test_decode_rxRd : decode ⟨.stimulus, [0x43]⟩ = .ok .rxRd := rfl
theorem test_decode_unpCtrl : decode ⟨.stimulus, [0x50, 0x94]⟩ = .ok (.unpCtrl 0x94) := rfl
theorem test_decode_unpOpc : decode ⟨.stimulus, [0x51, 0x31]⟩ = .ok (.unpOpc 0x31) := rfl
theorem test_decode_unpStat : decode ⟨.stimulus, [0x52, 0x64]⟩ = .ok (.unpStat 0x64) := rfl
theorem test_decode_bcdConv : decode ⟨.stimulus, [0x53, 0x12, 0x34, 0x56]⟩ = .ok (.bcdConv [0x12, 0x34, 0x56]) := rfl
theorem test_decode_txnRd : decode ⟨.stimulus, [0x60]⟩ = .ok .txnRd := rfl
theorem test_decode_txnAdv : decode ⟨.stimulus, [0x61]⟩ = .ok .txnAdv := rfl
theorem test_decode_txnTake : decode ⟨.stimulus, [0x62]⟩ = .ok .txnTake := rfl
theorem test_decode_reset : decode ⟨.stimulus, [0xFF]⟩ = .ok .reset := rfl

/-- V1.10: the poll, an ACK and a NACK of the wire format table, and V3.9's DATA frame. -/
theorem test_decode_framePoll : decode ⟨.wire, [0x50, 0x81, 0xFA]⟩ = .ok (.framePoll 0x50) := rfl
theorem test_decode_frameAck : decode ⟨.wire, [0x50, 0x92, 0xFA]⟩ = .ok (.frameAck 0x50 1) := rfl
theorem test_decode_frameNack : decode ⟨.wire, [0x50, 0xF3, 0xFA]⟩ = .ok (.frameNack 0x50 7) := rfl
theorem test_decode_frameData :
    decode ⟨.wire, [0x50, 0x94, 0x01, 0x31, 0xDC, 0x06, 0x03, 0xFA]⟩ = .ok (.frameData 0x50 1 0x31 []) := by decide +kernel
/-- A pump's reply has the master flag clear (V4.1): no frame row, so `DEC_FRAME` of its bytes. -/
theorem test_decode_wire_other : decode ⟨.wire, [0x50, 0x12, 0xFA]⟩ = .ok (.decFrame [0x50, 0x12, 0xFA]) := rfl
theorem test_decode_fieldControl : decode ⟨.control, [0x94]⟩ = .ok (.fieldControl 1 1 4) := rfl
theorem test_decode_fieldOpc : decode ⟨.opc, [0x31]⟩ = .ok (.fieldOpc 3 1) := rfl
theorem test_decode_fieldStatus : decode ⟨.status, [0xE4]⟩ = .ok (.fieldStatus 1 1 1 0 4) := rfl

/-- Inputs that are nothing of the spec are refused by name (log 5); V8.1's code is illegal (R87). -/
theorem test_decode_empty : decode ⟨.stimulus, []⟩ = .error .empty := rfl
theorem test_decode_illegal : decode ⟨.stimulus, [0x99]⟩ = .error (.illegalCode 0x99) := rfl
theorem test_decode_missing : decode ⟨.stimulus, [0x40, 0x50, 0xF4]⟩ = .error .missingOperands := rfl
theorem test_decode_trailing : decode ⟨.stimulus, [0x11, 0x52, 0x00]⟩ = .error .trailingOperands := rfl
theorem test_decode_too_wide : decode ⟨.stimulus, [0x21, 0x50, 0x10]⟩ = .error .operandTooWide := rfl

/-- The first step after reset runs the placed word (V8.1's code has the effect of R87). -/
theorem test_step_runs_word :
    step (State.reset.withFetchWord 8 0x61) = .next { State.reset with arch := { Arch.reset with txn := 2 } } := rfl
theorem test_step_illegal :
    step (State.reset.withFetchWord 8 0x99) =
      .next { State.reset with arch := { Arch.reset with errCode := 9 }, result := .failed (.illegalStimulus 0x99) } := rfl

/-! ### U1 -/

/-- R103: the worked example. -/
theorem test_crcUpd : answers (.crcUpd 0x01) State.reset (fun t => t.arch.crc == 0x1189) = true := by decide +kernel
/-- V2.15 after the last update. -/
theorem test_crcRd : answers .crcRd { State.reset with arch := { Arch.reset with crc := 0x27DE } }
    (fun t => t.result == .crcRead 0x27DE 0xDE 0x27) = true := by decide +kernel
/-- V1.1. -/
theorem test_crcBlk : answers (.crcBlk [0x52, 0x00, 0x01, 0x01, 0x00]) State.reset
    (fun t => t.result == .crcBlock 0x20EE) = true := by decide +kernel
/-- V1.2 and V1.9. -/
theorem test_crcChk : answers (.crcChk [0x52, 0x00, 0x01, 0x01, 0x00, 0xEE, 0x20]) State.reset
    (fun t => t.result == .crcCheck true 0) = true := by decide +kernel
theorem test_crcChk_swapped : answers (.crcChk [0x52, 0x00, 0x01, 0x01, 0x00, 0x20, 0xEE]) State.reset
    (fun t => t.result == .crcCheck false 0x7FC8) = true := by decide +kernel

/-! ### U2 -/

/-- V3.3. -/
theorem test_bldPoll : answers (.bldPoll 0x00) State.reset
    (fun t => t.arch.txbuf == [0x00, 0x81, 0xFA] && t.result == .frame [0x00, 0x81, 0xFA] false) = true := by decide +kernel
/-- V3.5 and V3.6. -/
theorem test_bldAck : answers (.bldAck 0x6F 15) State.reset (fun t => t.arch.txbuf == [0x6F, 0xF2, 0xFA]) = true := by decide +kernel
theorem test_bldAck_alias : answers (.bldAck 0x50 8) State.reset (fun t => t.arch.txbuf == [0x50, 0x82, 0xFA]) = true := by decide +kernel
/-- V3.8. -/
theorem test_bldNack : answers (.bldNack 0x50 7) State.reset (fun t => t.arch.txbuf == [0x50, 0xF3, 0xFA]) = true := by decide +kernel
/-- V3.13. -/
theorem test_bldData : answers (.bldData 0x6F 0xF 0x1F 15 [0x12, 0x34, 0x56]) State.reset
    (fun t => t.arch.txbuf == [0x6F, 0xF4, 0x04, 0xFF, 0x12, 0x34, 0x56, 0xE0, 0x53, 0x03, 0xFA]) = true := by decide +kernel
/-- V3.18. -/
theorem test_bldData_too_long : answers (.bldData 0x50 1 1 1 (List.replicate 255 0)) State.reset
    (fun t => t.arch.errCode == 6 && t.arch.txbuf == []) = true := by decide +kernel
/-- V3.19. -/
theorem test_sndData : answers (.sndData 0x6F 0xF 0x1F [0x12, 0x34, 0x56]) (withTxn 15)
    (fun t => t.arch.txn == 1 && t.arch.txbuf == [0x6F, 0xF4, 0x04, 0xFF, 0x12, 0x34, 0x56, 0xE0, 0x53, 0x03, 0xFA]) = true := by decide +kernel
/-- V3.20. -/
theorem test_sndData_too_long : answers (.sndData 0x50 1 1 (List.replicate 255 0)) (withTxn 5)
    (fun t => t.arch.txn == 5 && t.arch.errCode == 6) = true := by decide +kernel

/-! ### U3 -/

/-- V4.1: the payload and the CRC of the reply. -/
theorem test_decode_reply : (match decodeFrame [0x50, 0x14, 0x03, 0x01, 0x64, 0x00, 0x15, 0xA4, 0x03, 0xFA] with
    | .data f => f.payload == [0x64, 0x00] && f.crc == 0xA415 && f.stopPresent && f.etxOk
    | _ => false) = true := by decide +kernel
/-- V4.6: wrong ETX and no STOP_FLAG. -/
theorem test_decode_malformed_tail : (match decodeFrame [0x50, 0x14, 0x03, 0x01, 0x64, 0x00, 0x15, 0xA4, 0x04] with
    | .data f => f.payload == [0x64, 0x00] && !f.stopPresent && !f.etxOk
    | _ => false) = true := by decide +kernel
/-- V4.15, V4.11, V4.3, V4.7: the four reasons. -/
theorem test_unparseable_class : decodeFrame [] = .unparseable [] .cls := by decide +kernel
theorem test_unparseable_span : decodeFrame [0x50, 0x04, 0x01, 0x00, 0xAF, 0x03, 0xFA] =
    .unparseable [0x50, 0x04, 0x01, 0x00, 0xAF, 0x03, 0xFA] .span := by decide +kernel
theorem test_unparseable_crc : decodeFrame [0x50, 0x14, 0x03, 0x01, 0x64, 0x00, 0x15, 0xA4] =
    .unparseable [0x50, 0x14, 0x03, 0x01, 0x64, 0x00, 0x15, 0xA4] .crc := by decide +kernel
theorem test_unparseable_length : decodeFrame [0x50, 0x14, 0x02, 0x01, 0x64, 0x00, 0xAE, 0xB8, 0x03, 0xFA] =
    .unparseable [0x50, 0x14, 0x02, 0x01, 0x64, 0x00, 0xAE, 0xB8, 0x03, 0xFA] .length := by decide +kernel
/-- V4.24: a noise-collapsed buffer. -/
theorem test_decFrame_short : answers (.decFrame [0xFA, 0x50, 0x81]) State.reset (fun t => t.arch.errCode == 0 &&
    t.result == .decoded (.short (shortRecord 0xFA 0x50 0x81))) = true := by decide +kernel
theorem test_short_fields : shortRecord 0xFA 0x50 0x81 = ⟨0xFA, 0x50, false, 5, 0, .unknown, false, false⟩ := by decide +kernel
/-- R153 at address 0x52, where R272's inference says otherwise (log 17). -/
theorem test_short_class_of_collapsed : (shortRecord 0xFA 0x52 0x81).cls = .ack := by decide +kernel
/-- V4.16. -/
theorem test_decFrame_unparseable : answers (.decFrame [0x50]) State.reset (fun t => t.arch.errCode == 4) = true := by decide +kernel

/-! ### U4 -/

/-- V5.1 and V5.4. -/
theorem test_rxStart : answers (.rxStart 0x50 500) State.reset (fun t => t.arch == (receiving []).arch) = true := by decide +kernel
theorem test_rxStart_busy_first : answers (.rxStart 0x51 0) (receiving [0x01])
    (fun t => t.arch == { (receiving [0x01]).arch with errCode := 7 }) = true := by decide +kernel
/-- R176's example: the ninth byte completes the third repeat. -/
theorem test_rxByte_noise : answers (.rxByte 0x81) (receiving [0xFA, 0x50, 0x81, 0xFA, 0x50, 0x81, 0xFA, 0x50])
    (fun t => t.arch.rxbuf == [0xFA, 0x50, 0x81] && t.arch.rxReason == .noiseCollapsed) = true := by decide +kernel
/-- V5.12 with a smaller buffer: the byte that fills it is kept. -/
theorem test_rxByte_overflow : answers (.rxByte 0x09) (withCap 9 (receiving (List.replicate 8 0x01)))
    (fun t => t.arch.rxLen == 9 && t.arch.rxReason == .overflow && t.arch.errCode == 8) = true := by decide +kernel
/-- V5.17: the run does not start at offset 0. -/
theorem test_collapse_offset :
    collapse [0x50, 0x81, 0xFA, 0x50, 0x81, 0xFA, 0x50, 0x81, 0xFA, 0x50, 0x81] 0x50 = some 2 := by decide +kernel
/-- V1.7, V5.22. -/
theorem test_collapse_start :
    collapse [0xFA, 0x50, 0x81, 0xFA, 0x50, 0x81, 0xFA, 0x50, 0x81, 0xFA, 0x50, 0x81] 0x50 = some 3 ∧
      collapse [0xFA, 0x50, 0x81, 0xFA, 0x50, 0x81, 0xFA, 0x50] 0x50 = none := by decide +kernel
/-- V5.10: the tick on which `t_silence` reaches 10. -/
theorem test_rxTick_confirms : answers .rxTick (ticking [0x50, 0x14, 0x06, 0x01, 0x01, 0x02, 0x03, 0xFA] 16 9)
    (fun t => t.arch.rxReason == .stopConfirmed && t.arch.tTotal == 17) = true := by decide +kernel
/-- V5.8: seven bytes are no candidate end. -/
theorem test_rxTick_seven_bytes : answers .rxTick (ticking [0x01, 0x02, 0x03, 0x04, 0x05, 0x06, 0xFA] 9 9)
    (fun t => t.arch.rxState == .active && t.arch.tSilence == 10) = true := by decide +kernel
/-- P4 and V5.21. -/
theorem test_rxRd_noResponse : answers .rxRd (ended [] .totalTimeout)
    (fun t => t.arch.errCode == 3 && t.result == .received .done .totalTimeout []) = true := by decide +kernel
theorem test_rxRd : answers .rxRd (ended [0x50, 0x92, 0xFA] .silence)
    (fun t => t.arch.errCode == 0 && t.result == .received .done .silence [0x50, 0x92, 0xFA]) = true := by decide +kernel

/-! ### U5 -/

/-- V6.3 and V6.4. -/
theorem test_unpCtrl : answers (.unpCtrl 0xF2) State.reset (fun t => t.result == .control true 7 2 .ack) = true := by decide +kernel
theorem test_unpCtrl_ackPoll : answers (.unpCtrl 0x85) State.reset (fun t => t.result == .control true 0 5 .ackPoll) = true := by decide +kernel
/-- V6.7. -/
theorem test_unpOpc : answers (.unpOpc 0x31) State.reset (fun t => t.result == .opc 3 1) = true := by decide +kernel
/-- V1.6 and V6.13. -/
theorem test_unpStat : answers (.unpStat 0x64) State.reset (fun t => t.result == .status 4 false true true) = true := by decide +kernel
theorem test_unpStat_on : answers (.unpStat 0x10) State.reset (fun t => t.result == .status 0 true false false) = true := by decide +kernel
/-- V6.15 and V6.19. -/
theorem test_bcdConv : answers (.bcdConv [0x12, 0x34, 0x56]) State.reset (fun t => t.result == .bcd 123456 true) = true := by decide +kernel
theorem test_bcdConv_invalid : answers (.bcdConv [0x1A]) State.reset
    (fun t => t.result == .bcd 0 false && t.arch.errCode == 4) = true := by decide +kernel

/-! ### U6, NOP, RESET -/

/-- V7.1, V7.2, V7.3. -/
theorem test_txnRd : answers .txnRd State.reset (fun t => t.result == .txn 1) = true := by decide +kernel
theorem test_txnAdv : answers .txnAdv (withTxn 15) (fun t => t.arch.txn == 1) = true := by decide +kernel
theorem test_txnTake : answers .txnTake (withTxn 7) (fun t => t.result == .txn 7 && t.arch.txn == 8) = true := by decide +kernel
/-- V8.2. -/
theorem test_nop : answers .nop { State.reset with arch := { Arch.reset with errCode := 4 } } (fun t => t.arch.errCode == 4) = true := by decide +kernel
/-- V8.4. -/
theorem test_reset : answers .reset (ticking [0x50, 0x92, 0xFA] 3 1) (fun t => t.arch == Arch.reset) = true := by decide +kernel

/-! ### The format rows -/

theorem test_framePoll : answers (.framePoll 0x50) State.reset (fun t =>
    t.result == .decoded (.short ⟨0x50, 0x81, true, 0, 1, .poll, true, true⟩)) = true := by decide +kernel
theorem test_frameAck : answers (.frameAck 0x50 1) State.reset (fun t =>
    t.result == .decoded (.short ⟨0x50, 0x92, true, 1, 2, .ack, true, true⟩)) = true := by decide +kernel
theorem test_frameNack : answers (.frameNack 0x50 7) State.reset (fun t =>
    t.result == .decoded (.short ⟨0x50, 0xF3, true, 7, 3, .nack, true, true⟩)) = true := by decide +kernel
/-- V4.25. -/
theorem test_frameData : answers (.frameData 0x6F 7 0xFF [0x12, 0x34, 0x56]) State.reset (fun t =>
    t.result == .decoded (.data ⟨0x6F, 0xF4, true, 7, 4, 4, 0xFF, 15, 15, [0x12, 0x34, 0x56], 0x53E0, true, true, true⟩)) = true := by decide +kernel
/-- V6.1, V6.7, V6.12. -/
theorem test_fieldControl : answers (.fieldControl 1 1 4) State.reset (fun t => t.result == .control true 1 4 .data) = true := by decide +kernel
theorem test_fieldOpc : answers (.fieldOpc 3 1) State.reset (fun t => t.result == .opc 3 1) = true := by decide +kernel
theorem test_fieldStatus : answers (.fieldStatus 1 1 1 0 4) State.reset (fun t => t.result == .status 4 false true true) = true := by decide +kernel

/-! ### Witnesses: for every statement with hypotheses, what meets them -/

theorem witness_StepRunsTheDecodedInstruction :
    (offered [encode .txnAdv]).pending = encode .txnAdv :: [] ∧ decode (encode .txnAdv) = .ok .txnAdv ∧
      Instr.wellFormed .txnAdv = true := ⟨rfl, rfl, rfl⟩
theorem witness_BlockIsQuiescentWithoutInput : (withTxn 3).pending = [] := rfl
/-- Codes next to assigned ones, and V8.1's. -/
theorem witness_IllegalCodeOnlyWritesErrCode :
    (offered [⟨.stimulus, [0x99, 0x01]⟩]).pending = ⟨.stimulus, 0x99 :: [0x01]⟩ :: [] ∧
      ∀ code ∈ ([0x99, 0x01, 0x15, 0x63, 0xFE] : List Byte), code ∉ ([0x00, 0x10, 0x11, 0x12, 0x13, 0x14, 0x20, 0x21, 0x22, 0x23, 0x24,
        0x30, 0x40, 0x41, 0x42, 0x43, 0x50, 0x51, 0x52, 0x53, 0x60, 0x61, 0x62, 0xFF] : List Byte) := ⟨rfl, by decide +kernel⟩
theorem witness_OnlyMalformedInputsAreRefused :
    step (offered [⟨.stimulus, [0x40, 0x50]⟩]) = .refused (.malformedInput .missingOperands) := rfl
theorem witness_DecodeOfEncodeIsTheInstruction :
    (Instr.frameData 0x50 7 0x11 (List.replicate 254 0xFA)).wellFormed = true ∧ Instr.wellFormed (.rxStart 0x50 65535) = true := by decide +kernel
theorem witness_EncodeOfDecodeIsTheInput :
    decode ⟨.stimulus, [0x40, 0x50, 0xFF, 0xFF]⟩ = .ok (.rxStart 0x50 0xFFFF) ∧
      decode ⟨.wire, [0x50, 0x81, 0xFA]⟩ = .ok (.framePoll 0x50) ∧ decode ⟨.wire, []⟩ = .ok (.decFrame []) := ⟨rfl, rfl, rfl⟩
theorem witness_WireInputsActAsDecFrame :
    decode ⟨.wire, [0x50, 0x82, 0xFA]⟩ = .ok (.frameAck 0x50 0) ∧ decode ⟨.wire, [0x50, 0x85, 0xFA]⟩ = .ok (.decFrame [0x50, 0x85, 0xFA]) :=
  ⟨rfl, rfl⟩
/-- The boundary of the extra payload's length, for BuiltFramesAreTheWireRows, DataFrameIsBuilt, SendDataUsesThenAdvancesTxn,
DecoderRecoversBuiltFrames and FrameRowsDecodeAsTheirKind. -/
theorem witness_payload_lengths :
    (List.replicate 254 (0xFA : Byte)).length ≤ 254 ∧ 254 < (List.replicate 255 (0xFA : Byte)).length ∧
      ([] : List Byte).length ≤ 254 := by decide +kernel
theorem witness_CrcIsLinearOverXor : ([0x52, 0x00] : List Byte).length = ([0xFA, 0x81] : List Byte).length := rfl
theorem witness_TooLongPayloadIsRefused :
    254 < (List.replicate 255 (0 : Byte)).length ∧
      (Instr.sndData 0x50 1 1 (List.replicate 255 0) = .bldData 0x50 1 1 0 (List.replicate 255 0) ∨
        Instr.sndData 0x50 1 1 (List.replicate 255 0) = .sndData 0x50 1 1 (List.replicate 255 0)) := by decide +kernel
/-- One sequence of each kind. -/
theorem witness_DecodingWritesErrCodeAlone :
    decodeFrame [0x50, 0x92, 0xFA] = .short (shortRecord 0x50 0x92 0xFA) ∧
      decodeFrame [0x50, 0x04, 0x01, 0x00, 0xAF, 0xAF, 0x03] = .data (dataRecord [0x50, 0x04, 0x01, 0x00, 0xAF, 0xAF, 0x03]) ∧
      decodeFrame [0x50] = .unparseable [0x50] .cls := by decide +kernel
theorem witness_ThreeBytesDecodeAsShort : decodeFrame [0x00, 0x00, 0x00] = .short (shortRecord 0x00 0x00 0x00) := by decide +kernel
/-- V4.9 and V4.10: the smallest DATA frame, and the same without its STOP_FLAG. -/
theorem witness_DataFramesAreExactlyTheGrammar :
    decodeFrame [0x50, 0x04, 0x01, 0x00, 0xAF, 0xAF, 0x03, 0xFA] =
        .data (dataRecord [0x50, 0x04, 0x01, 0x00, 0xAF, 0xAF, 0x03, 0xFA]) ∧
      decodeFrame [0x50, 0x04, 0x01, 0x00, 0xAF, 0xAF, 0x03] = .data (dataRecord [0x50, 0x04, 0x01, 0x00, 0xAF, 0xAF, 0x03]) := by decide +kernel
/-- Lengths at the clauses' edges: 0 and 6, 3, 7. -/
theorem witness_SequenceLengthDecidesTheKind :
    ([] : List Byte).length ∈ [0, 1, 2, 4, 5, 6] ∧ ([1, 2, 3, 4, 5, 6] : List Byte).length ∈ [0, 1, 2, 4, 5, 6] ∧
      ([1, 2, 3] : List Byte).length = 3 ∧ 7 ≤ ([1, 2, 3, 4, 5, 6, 7] : List Byte).length := by decide +kernel
/-- A record with the shortest valid payload, for both values of `STATUS_BYTE_INDEX`, and one that is too short. -/
theorem witness_StatusRecordNeedsAValidFrame :
    (dataRecord [0x50, 0x14, 0x03, 0x01, 0x64, 0x00, 0x15, 0xA4, 0x03, 0xFA]).opcHi = 0 ∧
      2 ≤ (dataRecord [0x50, 0x14, 0x03, 0x01, 0x64, 0x00, 0x15, 0xA4, 0x03, 0xFA]).payload.length ∧
      Config.default.Valid ∧ Config.Valid { Config.default with statusByteIndex := 1 } ∧
      ¬ ((dataRecord [0x50, 0x04, 0x01, 0x00, 0xAF, 0xAF, 0x03, 0xFA]).opcHi = 0 ∧
        2 ≤ (dataRecord [0x50, 0x04, 0x01, 0x00, 0xAF, 0xAF, 0x03, 0xFA]).payload.length) := by decide +kernel
/-- The least and the greatest legal total, from IDLE and from DONE. -/
theorem witness_RxStartOpensAReceive :
    State.reset.arch.rxState ≠ .active ∧ (ended [] .totalTimeout).arch.rxState ≠ .active ∧
      1 ≤ (1 : Word16).toNat ∧ (1 : Word16).toNat ≤ 65534 ∧ 1 ≤ (65534 : Word16).toNat ∧ (65534 : Word16).toNat ≤ 65534 := by decide +kernel
theorem witness_RxStartRefusals :
    (receiving []).arch.rxState = .active ∧ State.reset.arch.rxState ≠ .active ∧ (0 : Word16).toNat = 0 ∧
      (65535 : Word16).toNat = 65535 := by decide +kernel
theorem witness_RxByteCollapsesNoise :
    (receiving [0xFA, 0x50, 0x81, 0xFA, 0x50, 0x81, 0xFA, 0x50]).arch.rxState = .active ∧
      collapse ((receiving [0xFA, 0x50, 0x81, 0xFA, 0x50, 0x81, 0xFA, 0x50]).arch.rxbuf ++ [0x81]) 0x50 = some 3 := by decide +kernel
/-- The byte before the last place, and the byte that fills the buffer. -/
theorem witness_RxByteAppendsAndOverflows :
    (withCap 9 (receiving (List.replicate 8 1))).arch.rxState = .active ∧
      collapse ((receiving (List.replicate 8 1)).arch.rxbuf ++ [2]) 0x50 = none ∧
      (receiving (List.replicate 8 1)).arch.rxLen + 1 = (withCap 9 (receiving (List.replicate 8 1))).cfg.rxCap ∧
      (receiving (List.replicate 7 1)).arch.rxLen + 1 ≠ (withCap 9 (receiving (List.replicate 7 1))).cfg.rxCap ∧
      collapse ((receiving (List.replicate 7 1)).arch.rxbuf ++ [2]) 0x50 = none := by decide +kernel
theorem witness_RxByteOutsideActiveChangesNothing :
    State.reset.arch.rxState ≠ .active ∧ (ended [0x01] .silence).arch.rxState ≠ .active := by decide +kernel
theorem witness_CollapseNeedsOnlyTheLastNineBytes :
    collapse [0xFA, 0x50, 0x81, 0xFA, 0x50, 0x81, 0xFA, 0x50] 0x50 = none ∧
      collapse [0x33, 0xFA, 0x50, 0x81, 0xFA, 0x50, 0x81, 0xFA, 0x50] 0x50 = none ∧ collapse [] 0x50 = none := by decide +kernel
/-- A state for each of the four ends of a tick, each at its limit. -/
theorem witness_RxTickCountsAndEnds :
    (ticking [] 500 500).arch.rxState = .active ∧ 500 < ((ticking [] 500 500).arch.tTotal + 1).toNat ∧
      (let s := ticking [0, 0, 0, 0, 0, 0, 0, 0xFA] 499 9
       ¬ 500 < (s.arch.tTotal + 1).toNat ∧ 8 ≤ s.arch.rxLen ∧ s.arch.rxRead (s.arch.rxLen - 1) = some 0xFA ∧
         s.cfg.confirmTicks ≤ (s.arch.tSilence + 1).toNat) ∧
      (let s := ticking [0x55] 499 49
       ¬ 500 < (s.arch.tTotal + 1).toNat ∧ ¬ 8 ≤ s.arch.rxLen ∧ 1 ≤ s.arch.rxLen ∧ s.cfg.quietTicks ≤ (s.arch.tSilence + 1).toNat) ∧
      (let s := ticking [0x55] 499 48
       ¬ 500 < (s.arch.tTotal + 1).toNat ∧ ¬ 8 ≤ s.arch.rxLen ∧ ¬ s.cfg.quietTicks ≤ (s.arch.tSilence + 1).toNat) := by decide +kernel
theorem witness_RxTickOutsideActiveChangesNothing :
    State.reset.arch.rxState ≠ .active ∧ (ended [] .totalTimeout).arch.rxState ≠ .active := by decide +kernel
theorem witness_RxReadReturnsTheBuffer :
    (ended [] .totalTimeout).arch.rxState = .done ∧ (ended [] .totalTimeout).arch.rxLen = 0 ∧
      ¬ ((ended [0x01] .silence).arch.rxState = .done ∧ (ended [0x01] .silence).arch.rxLen = 0) ∧
      ¬ ((receiving []).arch.rxState = .done ∧ (receiving []).arch.rxLen = 0) := by decide +kernel
/-- Each transition happens, and a stimulus in DONE that is neither `RESET` nor `RX_START`. -/
theorem witness_ReceiveStateTransitions :
    (∃ t, exec (.rxStart 0x50 1) State.reset = .next t ∧ t.arch.rxState = .active) ∧
      (∃ t, exec .rxTick (ticking [] 500 500) = .next t ∧ t.arch.rxState = .done) ∧
      (∃ t, exec .reset (receiving []) = .next t ∧ t.arch.rxState = .idle) ∧
      ∃ t, exec (.rxByte 1) (ended [0x01] .silence) = .next t ∧ (ended [0x01] .silence).arch.rxState = .done :=
  ⟨⟨_, rfl, rfl⟩, ⟨_, rfl, rfl⟩, ⟨_, rfl, rfl⟩, ⟨_, rfl, rfl⟩⟩

/-- A machine in the middle of an empty receive meets the invariants of R36. -/
theorem receiving_inv : (ticking [] 497 3).Inv where
  cfg_valid := by decide +kernel
  arch_inv := {
    txn_range := by decide +kernel
    rx_len_le := by decide +kernel
    idle_empty := by decide +kernel
    active_timers := by decide +kernel
    done_reason := by decide +kernel
    active_no_run := fun _ p h => by simpa [ticking, receiving] using (h 0 (by decide +kernel)).1
    tx_len_range := by decide +kernel
    tx_last := by decide +kernel
    active_room := by decide +kernel
    active_total := by decide +kernel
    done_timers := by decide +kernel
    done_empty := by decide +kernel
    err_range := by decide +kernel }

theorem witness_ReceiveEndsWithinTotalTicks :
    (ticking [] 497 3).Inv ∧ (ticking [] 497 3).arch.rxState = .active ∧ .reset ∉ List.replicate 4 Instr.rxTick ∧
      (∀ addr total, .rxStart addr total ∉ List.replicate 4 Instr.rxTick) ∧
      (ticking [] 497 3).arch.rxTotal.toNat < (ticking [] 497 3).arch.tTotal.toNat + (List.replicate 4 Instr.rxTick).count .rxTick :=
  ⟨receiving_inv, rfl, by simp, by simp, by decide +kernel⟩
theorem witness_EveryStepKeepsTheInvariants :
    (ticking [] 497 3).Inv ∧ step (ticking [] 497 3) = .next (ticking [] 497 3) := ⟨receiving_inv, rfl⟩
theorem witness_StoredBytesAreNeverRewritten :
    (receiving [0x01]).arch.rxLen ≤ 1 ∧
      ∃ t, exec (.rxByte 0x02) (receiving [0x01]) = .next t ∧ t.arch.rxRead 1 = some 0x02 ∧ t.arch.rxRead 0 = some 0x01 :=
  ⟨by decide +kernel, _, rfl, by decide +kernel⟩
/-- Valid digits at the longest legal length, an invalid digit, and one byte too many. -/
theorem witness_BcdIsConvertedToDecimal :
    (List.replicate 8 (0x99 : Byte)).length ≤ State.reset.cfg.bcdMaxBytes ∧
      (∀ d ∈ (List.replicate 8 (0x99 : Byte)).flatMap (fun b => [b.toNat / 16, b.toNat % 16]), d ≤ 9) ∧
      (∃ d ∈ ([0x1A] : List Byte).flatMap (fun b => [b.toNat / 16, b.toNat % 16]), 9 < d) ∧
      State.reset.cfg.bcdMaxBytes < (List.replicate 9 (0x00 : Byte)).length := by decide +kernel
theorem witness_TxnCyclesWithPeriodFifteen : State.reset.arch.txn = 1 ∧ (withTxn 15).arch.txn ≠ 0 := by decide +kernel
theorem witness_SendsUseTheNumbersInOrder :
    (∀ o ∈ ([(0x50, 1, 1, []), (0x51, 2, 3, List.replicate 254 0)] : List (Byte × Nibble × Byte × List Byte)),
      o.2.2.2.length ≤ 254) ∧ ([0xFA] : List Byte).length ≤ 254 := by decide +kernel
/-- Each kind of instruction answers a next state: an advance, a send, a refused send, a build. -/
theorem witness_OnlySendsAndSequencerAdvanceTxn :
    (∀ i ∈ ([.txnTake, .sndData 0x50 1 1 [], .sndData 0x50 1 1 (List.replicate 255 0), .bldPoll 0x50] : List Instr),
      answers i (withTxn 15) (fun _ => true) = true) := by decide +kernel
theorem witness_NoStimulusTraps :
    ∃ t, exec (.rxStart 0x50 1) (receiving [0x01]) = .next t ∧ t.result = .failed .busy := ⟨_, rfl, rfl⟩
/-- An instruction that keeps `err_code` in a state, and one that writes it. -/
theorem witness_ErrCodeIsTheOutcomeOfTheLastStimulus :
    (∃ t, exec (.rxByte 1) State.reset = .next t ∧ keepsErrCode (.rxByte 1) State.reset.arch = true) ∧
      ∃ t, exec (.rxByte 1) (receiving []) = .next t ∧ keepsErrCode (.rxByte 1) (receiving []).arch = false :=
  ⟨⟨_, rfl, rfl⟩, ⟨_, rfl, rfl⟩⟩
/-- A refusal, and the overflow. -/
theorem witness_FailuresChangeNothingElse :
    (∃ t, exec (.rxStart 0x50 0) State.reset = .next t ∧ t.arch.errCode ≠ 0) ∧
      ∃ t, exec (.rxByte 2) (withCap 9 (receiving (List.replicate 8 1))) = .next t ∧ t.arch.errCode = 8 :=
  ⟨⟨_, rfl, by decide +kernel⟩, ⟨_, rfl, by decide +kernel⟩⟩
theorem witness_ElementsAreWrittenOnlyByTheirStimuli :
    ∃ t, exec (.rxByte 1) (ticking [] 3 3) = .next t ∧ Instr.rxByte 1 ≠ .reset ∧ t.arch.tSilence ≠ (ticking [] 3 3).arch.tSilence :=
  ⟨_, rfl, by decide +kernel⟩
/-- Two machines that differ in what they returned last and in what is offered next. -/
theorem witness_NothingElseSurvivesAStimulus :
    (offered [encode .nop]).arch = State.reset.arch ∧ (offered [encode .nop]).cfg = State.reset.cfg ∧
      (∃ t, exec .txnTake (offered [encode .nop]) = .next t) ∧
      ∃ t, exec .txnTake { State.reset with result := .txn 4 } = .next t := ⟨rfl, rfl, ⟨_, rfl⟩, ⟨_, rfl⟩⟩
theorem witness_ConfigurationIsConstant :
    (∃ t, exec .reset (withCap 9 State.reset) = .next t) ∧ ∃ t, step (offered [encode .reset]) = .next t := ⟨⟨_, rfl⟩, ⟨_, rfl⟩⟩

end Sys2Proof.Tests
end

section
/-! How the next input is taken and performed: one equation per case of `step` and `runInput` (R11, R59). -/

namespace Sys2Proof.Proofs

open Sys2Proof Sys2Proof.Machine

/-- With an input offered, a step performs it on the state from which it has been taken. -/
theorem step_of_pending_cons {s : State} {inp : Input} {rest : List Input} (hpending : s.pending = inp :: rest) :
    step s = runInput inp { s with pending := rest } := by
  simp only [step, takeInput, hpending]

/-- An input that decodes runs its instruction's meaning. -/
theorem runInput_of_decode_ok {inp : Input} {i : Instr} (hdecode : decode inp = .ok i) (s : State) :
    runInput inp s = exec i s := by
  simp only [runInput, hdecode]

/-- Settles O1: the input is taken, then performed. That the instruction is well formed is not needed. -/
theorem stepRunsTheDecodedInstruction : Obligations.StepRunsTheDecodedInstruction := by
  intro s inp rest i hpending hdecode _
  calc step s = runInput inp { s with pending := rest } := step_of_pending_cons hpending
    _ = exec i { s with pending := rest } := runInput_of_decode_ok hdecode _

end Sys2Proof.Proofs
end

section
/-! What performing an instruction can do (R10, R21, R230), said once for all instructions, and what a step can do. -/

namespace Sys2Proof.Proofs

open Sys2Proof Sys2Proof.Machine

/-- The four stimuli that load `TXBUF` and leave `txn` (R121 to R124). -/
def BuildsFrame (i : Instr) : Prop :=
  (∃ addr, i = .bldPoll addr) ∨ (∃ addr tx, i = .bldAck addr tx) ∨ (∃ addr tx, i = .bldNack addr tx) ∨
    ∃ addr cmd noz tx xp, i = .bldData addr cmd noz tx xp

/-- What `TXBUF` may hold once a frame is built (R36 item 7): 3 or 8 to 262 bytes, the last of them STOP_FLAG. -/
def FitsTxbuf (frame : List Byte) : Prop :=
  (frame.length = 3 ∨ 8 ≤ frame.length ∧ frame.length ≤ 262) ∧ frame.getLast? = some Config.stopFlag

/-- Everything performing an instruction can do to a machine, one constructor per way a stimulus ends. `exec_eq_next_effect` ties it to
`exec`. -/
inductive Effect (s : State) : Instr → State → Prop where
  /-- Nothing of the block changes (R33). -/
  | keeps {i : Instr} (r : Result) (hkeep : keepsErrCode i s.arch = true) : Effect s i (unchanged r s)
  /-- Only `err_code` is written: a result without another effect, or a failure. -/
  | reports {i : Instr} (e : ErrName) (r : Result) (hresult : r.errName = e) (hkeep : keepsErrCode i s.arch = false) :
      Effect s i (finish s.arch e r s)
  /-- `RESET` (R260). -/
  | resets : Effect s .reset { s with arch := Arch.reset, result := .noResult }
  /-- `CRC_CLR` and `CRC_UPD` (R102, R103). -/
  | writesCrc {i : Instr} (v : Word16) (hi : i = .crcClr ∨ ∃ b, i = .crcUpd b) :
      Effect s i (succeed { s.arch with crc := v } .noResult s)
  /-- A frame is built (R120). -/
  | builds {i : Instr} (frame : List Byte) (addr : Byte) (hi : BuildsFrame i) (hfits : FitsTxbuf frame) :
      Effect s i (buildFrame frame addr s)
  /-- `SND_DATA` (R128). -/
  | sends (addr : Byte) (cmd : Nibble) (noz : Byte) (xp frame : List Byte) (hfits : FitsTxbuf frame) :
      Effect s (.sndData addr cmd noz xp)
        (succeed (advanceTxn (txLoad frame s.arch)) (.sent frame (addrOk addr) s.arch.txn) s)
  /-- `TXN_ADV` and `TXN_TAKE` (R221, R222). -/
  | advances {i : Instr} (r : Result) (hi : i = .txnAdv ∨ i = .txnTake) (hresult : r.errName = .ok) :
      Effect s i (succeed (advanceTxn s.arch) r s)
  /-- `RX_START` opens a receive (R171). -/
  | opens (addr : Byte) (total : Word16) (hclosed : s.arch.rxState ≠ .active) (hlegal : totalLegal total = true) :
      Effect s (.rxStart addr total) (succeed (openReceive addr total s.arch) .noResult s)
  /-- The noise rule ends the receive (R176). -/
  | collapses (b : Byte) (n : Nat) (hactive : s.arch.rxState = .active)
      (hcollapse : collapse (s.arch.rxbuf ++ [b]) s.arch.rxAddr = some n) :
      Effect s (.rxByte b) (succeed (endReceive .noiseCollapsed (rxTruncate n (takeByte b s.arch))) .noResult s)
  /-- The byte fills the buffer and ends the receive (R174). -/
  | overflows (b : Byte) (hactive : s.arch.rxState = .active)
      (hquiet : collapse (s.arch.rxbuf ++ [b]) s.arch.rxAddr = none) (hfull : s.arch.rxLen + 1 = s.cfg.rxCap) :
      Effect s (.rxByte b) (finish (endReceive .overflow (takeByte b s.arch)) .rxOverflow (.failed .rxOverflow) s)
  /-- The byte is appended and the receive goes on (R173). -/
  | appends (b : Byte) (hactive : s.arch.rxState = .active)
      (hquiet : collapse (s.arch.rxbuf ++ [b]) s.arch.rxAddr = none) (hroom : s.arch.rxLen + 1 ≠ s.cfg.rxCap) :
      Effect s (.rxByte b) (succeed (takeByte b s.arch) .noResult s)
  /-- A tick ends the receive (R177 to R179). -/
  | tickEnds (r : RxReason) (hactive : s.arch.rxState = .active) (hreason : tickReason s.cfg (countTick s.arch) = some r) :
      Effect s .rxTick (succeed (endReceive r (countTick s.arch)) .noResult s)
  /-- A tick is only counted (R177). -/
  | tickCounts (hactive : s.arch.rxState = .active) (hreason : tickReason s.cfg (countTick s.arch) = none) :
      Effect s .rxTick (succeed (countTick s.arch) .noResult s)

/-! ### The outcome that each result carries -/

theorem decoded_errName (d : Decoded) : Result.errName (.decoded d) = d.errName := by
  cases d <;> rfl

theorem received_errName (st : RxState) (reason : RxReason) (bytes : List Byte) :
    Result.errName (.received st reason bytes) = if st = .done ∧ bytes.length = 0 then .noResponse else .ok := by
  cases st with
  | idle => rfl
  | active => rfl
  | done => cases bytes <;> rfl

/-! ### The frames the encoder loads -/

theorem fitsTxbuf_shortFrame (addr control : Byte) : FitsTxbuf (shortFrame addr control) :=
  ⟨.inl (shortFrame_length addr control), rfl⟩

theorem fitsTxbuf_dataFrame (addr control opc : Byte) {xp : List Byte} (hxp : xp.length ≤ Config.xpMax) :
    FitsTxbuf (dataFrame addr control opc xp) := by
  refine ⟨.inr ?_, by simp [dataFrame, closeFrame]⟩
  have hmax : xp.length ≤ 254 := hxp
  rw [dataFrame_length]
  omega

/-! ### The instructions whose ending depends on the state or an operand -/

/-- A sequence given to the decoder writes `err_code` alone (R150, R160). -/
theorem effect_decodeSequence {i : Instr} (bytes : List Byte) (s : State) (hkeep : keepsErrCode i s.arch = false) :
    Effect s i (decodeSequence bytes s) :=
  .reports _ _ (decoded_errName _) hkeep

theorem execBldData_effect (addr : Byte) (cmd : Nibble) (noz : Byte) (tx : Nibble) (xp : List Byte) (s : State) :
    ∃ t, execBldData addr cmd noz tx xp s = .next t ∧ Effect s (.bldData addr cmd noz tx xp) t := by
  unfold execBldData
  split
  · exact ⟨_, rfl, .reports _ _ rfl rfl⟩
  next hfits =>
    exact ⟨_, rfl, .builds _ _ (.inr (.inr (.inr ⟨_, _, _, _, _, rfl⟩))) (fitsTxbuf_dataFrame _ _ _ (Nat.not_lt.mp hfits))⟩

theorem execSndData_effect (addr : Byte) (cmd : Nibble) (noz : Byte) (xp : List Byte) (s : State) :
    ∃ t, execSndData addr cmd noz xp s = .next t ∧ Effect s (.sndData addr cmd noz xp) t := by
  unfold execSndData
  split
  · exact ⟨_, rfl, .reports _ _ rfl rfl⟩
  next hfits => exact ⟨_, rfl, .sends _ _ _ _ _ (fitsTxbuf_dataFrame _ _ _ (Nat.not_lt.mp hfits))⟩

theorem execRxStart_effect (addr : Byte) (total : Word16) (s : State) :
    ∃ t, execRxStart addr total s = .next t ∧ Effect s (.rxStart addr total) t := by
  unfold execRxStart
  split
  · exact ⟨_, rfl, .reports _ _ rfl rfl⟩
  next hclosed =>
    split
    next hlegal => exact ⟨_, rfl, .opens _ _ hclosed hlegal⟩
    · exact ⟨_, rfl, .reports _ _ rfl rfl⟩

theorem execRxByte_effect (b : Byte) (s : State) : ∃ t, execRxByte b s = .next t ∧ Effect s (.rxByte b) t := by
  unfold execRxByte
  split
  next hready =>
    have hactive : s.arch.rxState = .active := of_decide_eq_true hready
    refine ⟨_, rfl, ?_⟩
    obtain ⟨n, hn, heq⟩ | ⟨hnone, hfull, heq⟩ | ⟨hnone, hroom, heq⟩ := acceptByte_cases b s
    · exact heq ▸ .collapses b n hactive hn
    · exact heq ▸ .overflows b hactive hnone hfull
    · exact heq ▸ .appends b hactive hnone hroom
  next hready => exact ⟨_, rfl, .keeps _ (by simpa [keepsErrCode] using hready)⟩

theorem execRxTick_effect (s : State) : ∃ t, execRxTick s = .next t ∧ Effect s .rxTick t := by
  unfold execRxTick
  split
  next hactive =>
    refine ⟨_, rfl, ?_⟩
    obtain ⟨r, hr, heq⟩ | ⟨hnone, heq⟩ := activeTick_cases s
    · exact heq ▸ .tickEnds r hactive hr
    · exact heq ▸ .tickCounts hactive hnone
  next hactive => exact ⟨_, rfl, .keeps _ (by simpa [keepsErrCode, Arch.rxActive] using hactive)⟩

theorem execBcdConv_effect (bytes : List Byte) (s : State) :
    ∃ t, execBcdConv bytes s = .next t ∧ Effect s (.bcdConv bytes) t := by
  unfold execBcdConv
  split
  · exact ⟨_, rfl, .reports _ _ rfl rfl⟩
  · split
    · exact ⟨_, rfl, .reports .ok _ rfl rfl⟩
    · exact ⟨_, rfl, .reports _ _ rfl rfl⟩

theorem execFrameData_effect (addr : Byte) (tx3 : BitVec 3) (opc : Byte) (xp : List Byte) (s : State) :
    ∃ t, execFrameData addr tx3 opc xp s = .next t ∧ Effect s (.frameData addr tx3 opc xp) t := by
  unfold execFrameData
  split
  · exact ⟨_, rfl, .reports _ _ rfl rfl⟩
  · exact ⟨_, rfl, effect_decodeSequence _ s rfl⟩

/-! ### All instructions -/

/-- Every instruction answers a next state, and it is one of `Effect` (R230). -/
theorem exec_eq_next_effect (i : Instr) (s : State) : ∃ t, exec i s = .next t ∧ Effect s i t := by
  cases i with
  | nop => exact ⟨_, rfl, .keeps _ rfl⟩
  | reset => exact ⟨_, rfl, .resets⟩
  | crcClr => exact ⟨_, rfl, .writesCrc _ (.inl rfl)⟩
  | crcUpd b => exact ⟨_, rfl, .writesCrc _ (.inr ⟨b, rfl⟩)⟩
  | bldPoll addr => exact ⟨_, rfl, .builds _ _ (.inl ⟨_, rfl⟩) (fitsTxbuf_shortFrame _ _)⟩
  | bldAck addr tx => exact ⟨_, rfl, .builds _ _ (.inr (.inl ⟨_, _, rfl⟩)) (fitsTxbuf_shortFrame _ _)⟩
  | bldNack addr tx => exact ⟨_, rfl, .builds _ _ (.inr (.inr (.inl ⟨_, _, rfl⟩))) (fitsTxbuf_shortFrame _ _)⟩
  | bldData addr cmd noz tx xp => exact execBldData_effect addr cmd noz tx xp s
  | sndData addr cmd noz xp => exact execSndData_effect addr cmd noz xp s
  | txnAdv => exact ⟨_, rfl, .advances _ (.inl rfl) rfl⟩
  | txnTake => exact ⟨_, rfl, .advances _ (.inr rfl) rfl⟩
  | rxStart addr total => exact execRxStart_effect addr total s
  | rxByte b => exact execRxByte_effect b s
  | rxTick => exact execRxTick_effect s
  | rxRd => exact ⟨_, rfl, .reports _ _ (received_errName _ _ _) rfl⟩
  | bcdConv bytes => exact execBcdConv_effect bytes s
  | decFrame bytes => exact ⟨_, rfl, effect_decodeSequence _ s rfl⟩
  | framePoll addr => exact ⟨_, rfl, effect_decodeSequence _ s rfl⟩
  | frameAck addr tx3 => exact ⟨_, rfl, effect_decodeSequence _ s rfl⟩
  | frameNack addr tx3 => exact ⟨_, rfl, effect_decodeSequence _ s rfl⟩
  | frameData addr tx3 opc xp => exact execFrameData_effect addr tx3 opc xp s
  | crcRd | crcBlk | crcChk | unpCtrl | unpOpc | unpStat | txnRd | fieldControl | fieldOpc | fieldStatus =>
    exact ⟨_, rfl, .reports .ok _ rfl rfl⟩

/-- What performing an instruction did is one of `Effect`. -/
theorem effect_of_exec {i : Instr} {s t : State} (h : exec i s = .next t) : Effect s i t := by
  obtain ⟨u, hu, heffect⟩ := exec_eq_next_effect i s
  rw [hu] at h
  cases h
  exact heffect

/-- Everything a step that answers can do (R11, R87, R248): nothing without an input, an instruction's meaning, or the effect of an
illegal code. -/
theorem step_cases {s t : State} (h : step s = .next t) :
    t = s ∨ ∃ rest, (∃ i, exec i { s with pending := rest } = .next t) ∨
      ∃ code, t = illegalStimulus code { s with pending := rest } := by
  cases hpending : s.pending with
  | nil =>
    simp only [step, takeInput, hpending] at h
    cases h
    exact .inl rfl
  | cons inp rest =>
    rw [step_of_pending_cons hpending] at h
    refine .inr ⟨rest, ?_⟩
    cases hdecode : decode inp with
    | ok i => exact .inl ⟨i, (runInput_of_decode_ok hdecode _).symm.trans h⟩
    | error why =>
      simp only [runInput, hdecode] at h
      cases why with
      | illegalCode code =>
        cases h
        exact .inr ⟨code, rfl⟩
      | empty | missingOperands | trailingOperands | operandTooWide => cases h

end Sys2Proof.Proofs
end

section
/-! The invariants of R36 hold after reset and every step keeps them: one lemma per kind of write to the state. -/

namespace Sys2Proof.Proofs

open Sys2Proof Sys2Proof.Machine

variable {c : Config} {a : Arch}

/-- Item 6 of R36 is about what the noise search looks for (R182). -/
theorem noiseRun_isPrefix_of_noiseRunAt {addr : Byte} {buf : List Byte} {p : Nat} (h : NoiseRunAt addr buf p) :
    noiseRun addr <+: buf.drop p := by
  obtain ⟨h0, h1, h2⟩ := h 0 (by omega)
  obtain ⟨h3, h4, h5⟩ := h 1 (by omega)
  obtain ⟨h6, h7, h8⟩ := h 2 (by omega)
  rw [List.prefix_iff_getElem?]
  intro k hk
  have hk9 : k < 9 := hk
  rw [List.getElem?_drop]
  interval_cases k <;> assumption

/-- Where the noise rule collapses nothing, no run stands anywhere. -/
theorem not_noiseRunAt_of_collapse_eq_none {buf : List Byte} {addr : Byte} (h : collapse buf addr = none) (p : Nat) :
    ¬ NoiseRunAt addr buf p := by
  have hnone : findRun addr buf 0 = none := by
    unfold collapse at h
    split at h
    · cases h
    next hfind => exact hfind
  exact fun hrun => findRun_eq_none hnone p (noiseRun_isPrefix_of_noiseRunAt hrun)

theorem not_noiseRunAt_nil (addr : Byte) (p : Nat) : ¬ NoiseRunAt addr [] p := by
  intro h
  simpa using (h 0 (by omega)).1

/-- `totalLegal` is the range of R171. -/
theorem totalLegal_range {total : Word16} (h : totalLegal total = true) : 1 ≤ total.toNat ∧ total.toNat ≤ 65534 := by
  simp only [totalLegal, Bool.and_eq_true, decide_eq_true_eq] at h
  obtain ⟨hzero, hmax⟩ := h
  bv_omega

theorem errName_code_le (e : ErrName) : e.code.toNat ≤ 10 := by
  cases e <;> decide

/-! ### One lemma per write -/

theorem reset_inv (c : Config) : Arch.reset.Inv c where
  txn_range := by decide
  rx_len_le := Nat.zero_le _
  idle_empty := fun _ => ⟨rfl, rfl⟩
  active_timers := nofun
  done_reason := nofun
  active_no_run := nofun
  tx_len_range := .inl rfl
  tx_last := fun h => absurd rfl h
  active_room := nofun
  active_total := nofun
  done_timers := nofun
  done_empty := nofun
  err_range := Nat.zero_le _

theorem errCode_inv (e : ErrName) (h : a.Inv c) : Arch.Inv c { a with errCode := e.code } :=
  { h with err_range := errName_code_le e }

theorem crc_inv (v : Word16) (h : a.Inv c) : Arch.Inv c { a with crc := v } := { h with }

theorem advanceTxn_inv (h : a.Inv c) : (advanceTxn a).Inv c := { h with txn_range := txnNext_range a.txn }

theorem txLoad_inv {frame : List Byte} (hfits : FitsTxbuf frame) (h : a.Inv c) : (txLoad frame a).Inv c :=
  { h with
    tx_len_range := .inr hfits.1
    tx_last := fun _ => by
      have hlast := hfits.2
      rwa [List.getLast?_eq_getElem?] at hlast }

theorem openReceive_inv {addr : Byte} {total : Word16} (hcfg : c.Valid) (hlegal : totalLegal total = true) (h : a.Inv c) :
    (openReceive addr total a).Inv c :=
  { h with
    rx_len_le := Nat.zero_le _
    idle_empty := nofun
    active_timers := fun _ => ⟨rfl, Nat.zero_le _, BitVec.le_refl 0⟩
    done_reason := nofun
    active_no_run := fun _ => not_noiseRunAt_nil addr
    active_room := fun _ => Nat.lt_of_lt_of_le (Nat.succ_pos 8) hcfg.2.2.1
    active_total := fun _ => totalLegal_range hlegal
    done_timers := nofun
    done_empty := nofun }

/-- A receive may end with any buffer that fits and any timers within the bounds of R28; an empty buffer needs the total timeout
(R184). -/
theorem endReceive_inv {r : RxReason} {buf : List Byte} {total silence : Word16} (h : a.Inv c) (hreason : r ≠ .none)
    (hlen : buf.length ≤ c.rxCap) (htotal : total.toNat ≤ a.rxTotal.toNat + 1) (hsilence : silence ≤ total)
    (hempty : buf.length = 0 → r = .totalTimeout) :
    (endReceive r { a with rxbuf := buf, tTotal := total, tSilence := silence }).Inv c :=
  { h with
    rx_len_le := hlen
    idle_empty := nofun
    active_timers := nofun
    done_reason := fun _ => hreason
    active_no_run := nofun
    active_room := nofun
    active_total := nofun
    done_timers := fun _ => ⟨htotal, hsilence⟩
    done_empty := fun _ => hempty }

/-! ### The receive steps from ACTIVE -/

section
variable (h : a.Inv c) (hactive : a.rxState = .active)
include h hactive

theorem takeByte_inv {b : Byte} (hquiet : collapse (a.rxbuf ++ [b]) a.rxAddr = none) (hroom : a.rxLen + 1 ≠ c.rxCap) :
    (takeByte b a).Inv c := by
  have hlt : (takeByte b a).rxLen < c.rxCap := by
    have := h.active_room hactive
    simp only [Arch.rxLen, takeByte_rxbuf, List.length_append, List.length_singleton] at *
    omega
  obtain ⟨hreason, htotal, _⟩ := h.active_timers hactive
  exact
    { h with
      rx_len_le := hlt.le
      idle_empty := fun hidle => nomatch hactive.symm.trans hidle
      active_timers := fun _ => ⟨hreason, htotal, Nat.zero_le _⟩
      active_no_run := fun _ => not_noiseRunAt_of_collapse_eq_none hquiet
      active_room := fun _ => hlt
      done_timers := fun hdone => nomatch hactive.symm.trans hdone
      done_empty := fun hdone => nomatch hactive.symm.trans hdone }

/-- An accepted byte ends a receive with some of the bytes now in the buffer: never none of them, and the silence timer is 0. -/
theorem endReceive_of_byte_inv {r : RxReason} {b : Byte} {buf : List Byte} (hreason : r ≠ .none) (hne : 1 ≤ buf.length)
    (hlen : buf.length ≤ a.rxLen + 1) : (endReceive r { takeByte b a with rxbuf := buf }).Inv c := by
  have hroom := h.active_room hactive
  obtain ⟨_, htotal, _⟩ := h.active_timers hactive
  exact endReceive_inv (a := a) (silence := 0) h hreason (by omega) (Nat.le_succ_of_le htotal) (Nat.zero_le _) (fun hzero => by omega)

/-- While ACTIVE neither timer is at its greatest value, so a tick counts both up (R28). -/
theorem countTick_toNat :
    (countTick a).tTotal.toNat = a.tTotal.toNat + 1 ∧ (countTick a).tSilence.toNat = a.tSilence.toNat + 1 := by
  obtain ⟨_, htotal, hsilence⟩ := h.active_timers hactive
  obtain ⟨_, hmax⟩ := h.active_total hactive
  simp only [countTick_tTotal, countTick_tSilence]
  bv_omega

theorem countTick_timers :
    (countTick a).tTotal.toNat ≤ a.rxTotal.toNat + 1 ∧ (countTick a).tSilence ≤ (countTick a).tTotal := by
  obtain ⟨_, htotal, hsilence⟩ := h.active_timers hactive
  obtain ⟨hcount, hcount'⟩ := countTick_toNat h hactive
  rw [BitVec.le_def] at *
  omega

theorem countTick_inv (hreason : tickReason c (countTick a) = none) : (countTick a).Inv c :=
  { h with
    active_timers := fun _ =>
      ⟨(h.active_timers hactive).1, tickReason_eq_none hreason, (countTick_timers h hactive).2⟩
    done_timers := fun hdone => nomatch hactive.symm.trans hdone }

theorem endReceive_of_tick_inv {r : RxReason} (hreason : tickReason c (countTick a) = some r) :
    (endReceive r (countTick a)).Inv c := by
  obtain ⟨htotal, hsilence⟩ := countTick_timers h hactive
  have hnamed : r ≠ .none ∧ (a.rxLen = 0 → r = .totalTimeout) := by
    obtain ⟨rfl, _⟩ | ⟨rfl, _, hlen, _⟩ | ⟨rfl, _, hlen, _⟩ := tickReason_eq_some hreason
    · exact ⟨nofun, fun _ => rfl⟩
    · exact ⟨nofun, fun hzero => absurd (hzero ▸ hlen : 8 ≤ 0) (by decide)⟩
    · exact ⟨nofun, fun hzero => absurd (hzero ▸ hlen : 1 ≤ 0) (by decide)⟩
  exact endReceive_inv h hnamed.1 h.rx_len_le htotal hsilence hnamed.2

end

/-! ### Instructions and steps -/

/-- An effect writes no configuration (R263). -/
theorem effect_cfg {i : Instr} {s t : State} (h : Effect s i t) : t.cfg = s.cfg := by
  cases h <;> rfl

/-- Every way an instruction ends keeps the invariants of R36. -/
theorem effect_arch_inv {i : Instr} {s t : State} (heffect : Effect s i t) (h : s.Inv) : t.arch.Inv s.cfg := by
  obtain ⟨hcfg, harch⟩ := h
  cases heffect with
  | keeps r hkeep => exact harch
  | reports e r hresult hkeep => exact errCode_inv e harch
  | resets => exact reset_inv s.cfg
  | writesCrc v hi => exact errCode_inv .ok (crc_inv v harch)
  | builds frame addr hi hfits => exact errCode_inv .ok (txLoad_inv hfits harch)
  | sends addr cmd noz xp frame hfits => exact errCode_inv .ok (advanceTxn_inv (txLoad_inv hfits harch))
  | advances r hi hresult => exact errCode_inv .ok (advanceTxn_inv harch)
  | opens addr total hclosed hlegal => exact errCode_inv .ok (openReceive_inv hcfg hlegal harch)
  | collapses b n hactive hcollapse =>
    obtain ⟨hn, hle⟩ := collapse_bounds hcollapse
    have hkept : ((s.arch.rxbuf ++ [b]).take n).length = n := by simpa using hle
    have hadd : n ≤ s.arch.rxLen + 1 := by simpa [Arch.rxLen] using hle
    exact errCode_inv .ok (endReceive_of_byte_inv harch hactive nofun (hkept.symm ▸ hn) (hkept.symm ▸ hadd))
  | overflows b hactive hquiet hfull =>
    have hlen : (s.arch.rxbuf ++ [b]).length = s.arch.rxLen + 1 := by simp [Arch.rxLen]
    exact errCode_inv .rxOverflow
      (endReceive_of_byte_inv (b := b) (buf := s.arch.rxbuf ++ [b]) harch hactive nofun (by omega) hlen.le)
  | appends b hactive hquiet hroom => exact errCode_inv .ok (takeByte_inv harch hactive hquiet hroom)
  | tickEnds r hactive hreason => exact errCode_inv .ok (endReceive_of_tick_inv harch hactive hreason)
  | tickCounts hactive hreason => exact errCode_inv .ok (countTick_inv harch hactive hreason)

theorem exec_keeps_inv {i : Instr} {s t : State} (h : s.Inv) (hexec : exec i s = .next t) : t.Inv := by
  have heffect := effect_of_exec hexec
  have hcfg := effect_cfg heffect
  exact ⟨hcfg ▸ h.cfg_valid, hcfg ▸ effect_arch_inv heffect h⟩

/-- The invariants speak of nothing that is offered next. -/
theorem pending_inv {s : State} (rest : List Input) (h : s.Inv) : State.Inv { s with pending := rest } :=
  ⟨h.cfg_valid, h.arch_inv⟩

theorem illegalStimulus_inv {s : State} (code : Byte) (h : s.Inv) : (illegalStimulus code s).Inv :=
  ⟨h.cfg_valid, errCode_inv .illegalStimulus h.arch_inv⟩

end Sys2Proof.Proofs

namespace Sys2Proof.Proofs

open Sys2Proof Sys2Proof.Machine

/-- Settles O60: a step is nothing, an instruction, or the effect of an illegal code, and each keeps the invariants. -/
theorem everyStepKeepsTheInvariants : Obligations.EveryStepKeepsTheInvariants := by
  intro s t h hstep
  obtain rfl | ⟨rest, ⟨i, hexec⟩ | ⟨code, rfl⟩⟩ := step_cases hstep
  · exact h
  · exact exec_keeps_inv (pending_inv rest h) hexec
  · exact illegalStimulus_inv code (pending_inv rest h)

/-- Settles O59. -/
theorem resetMeetsTheInvariants : Obligations.ResetMeetsTheInvariants :=
  ⟨by decide, reset_inv Config.default⟩

/-- Settles O12: R21's reset column, element by element. -/
theorem resetStateHoldsTheResetColumn : Obligations.ResetStateHoldsTheResetColumn :=
  ⟨rfl, rfl, rfl, rfl, rfl, rfl, rfl, rfl, rfl, rfl, rfl⟩

end Sys2Proof.Proofs
end

section
/-! What each instruction may write, and what it may depend on (R20, R21, R27, R33). -/

namespace Sys2Proof.Proofs

open Sys2Proof Sys2Proof.Machine

/-! ### `rx_state` -/

/-- The transitions of R27, each with its stimulus. -/
theorem effect_rxState {i : Instr} {s t : State} (h : Effect s i t) :
    t.arch.rxState = s.arch.rxState ∨
      (s.arch.rxState ≠ .active ∧ t.arch.rxState = .active ∧ ∃ addr total, i = .rxStart addr total) ∨
      (s.arch.rxState = .active ∧ t.arch.rxState = .done ∧ (i = .rxTick ∨ ∃ b, i = .rxByte b)) ∨
      (t.arch.rxState = .idle ∧ i = .reset) := by
  cases h with
  | opens addr total hclosed => exact .inr (.inl ⟨hclosed, rfl, addr, total, rfl⟩)
  | collapses b n hactive => exact .inr (.inr (.inl ⟨hactive, rfl, .inr ⟨b, rfl⟩⟩))
  | overflows b hactive => exact .inr (.inr (.inl ⟨hactive, rfl, .inr ⟨b, rfl⟩⟩))
  | tickEnds r hactive => exact .inr (.inr (.inl ⟨hactive, rfl, .inl rfl⟩))
  | resets => exact .inr (.inr (.inr ⟨rfl, rfl⟩))
  | keeps | reports | writesCrc | builds | sends | advances | appends | tickCounts => exact .inl rfl

/-- In DONE only `RX_START` and `RESET` write the buffer or the receive's state (R27). -/
theorem effect_of_done {i : Instr} {s t : State} (h : Effect s i t) (hdone : s.arch.rxState = .done) (hreset : i ≠ .reset)
    (hstart : ∀ addr total, i ≠ .rxStart addr total) : t.arch.rxbuf = s.arch.rxbuf ∧ t.arch.rxState = .done := by
  cases h with
  | resets => exact absurd rfl hreset
  | opens addr total => exact absurd rfl (hstart addr total)
  | collapses _ _ hactive | overflows _ hactive | appends _ hactive | tickEnds _ hactive | tickCounts hactive =>
    exact nomatch hdone.symm.trans hactive
  | keeps | reports | writesCrc | builds | sends | advances => exact ⟨rfl, hdone⟩

/-- Settles O42: each way an instruction ends makes a listed transition or none. -/
theorem receiveStateTransitions : Obligations.ReceiveStateTransitions :=
  ⟨⟨rfl, rfl, rfl⟩, fun _ _ _ hexec => ⟨effect_rxState (effect_of_exec hexec), effect_of_done (effect_of_exec hexec)⟩⟩

/-! ### `err_code` -/

/-- `err_code` takes the outcome the result carries, but where the stimulus is one that leaves it (R33). -/
theorem effect_errCode {i : Instr} {s t : State} (h : Effect s i t) :
    (keepsErrCode i s.arch = true → t.arch.errCode = s.arch.errCode) ∧
      (keepsErrCode i s.arch = false → t.arch.errCode = t.result.errName.code) := by
  cases h with
  | keeps r hkeep => exact ⟨fun _ => rfl, fun hwrites => absurd (hkeep.symm.trans hwrites) nofun⟩
  | reports e r hresult hkeep =>
    exact ⟨fun hkeeps => absurd (hkeep.symm.trans hkeeps) nofun, fun _ => congrArg ErrName.code hresult.symm⟩
  | resets => exact ⟨nofun, fun _ => rfl⟩
  | writesCrc v hi => obtain rfl | ⟨b, rfl⟩ := hi <;> exact ⟨nofun, fun _ => rfl⟩
  | builds frame addr hi =>
    obtain ⟨_, rfl⟩ | ⟨_, _, rfl⟩ | ⟨_, _, rfl⟩ | ⟨_, _, _, _, _, rfl⟩ := hi <;> exact ⟨nofun, fun _ => rfl⟩
  | sends => exact ⟨nofun, fun _ => rfl⟩
  | advances r hi hresult =>
    obtain rfl | rfl := hi <;> exact ⟨nofun, fun _ => congrArg ErrName.code hresult.symm⟩
  | opens => exact ⟨nofun, fun _ => rfl⟩
  | collapses _ _ hactive | overflows _ hactive | appends _ hactive | tickEnds _ hactive | tickCounts hactive =>
    exact ⟨by simp [keepsErrCode, Arch.rxReady, Arch.rxActive, hactive], fun _ => rfl⟩

/-- Settles O54. -/
theorem errCodeIsTheOutcomeOfTheLastStimulus : Obligations.ErrCodeIsTheOutcomeOfTheLastStimulus :=
  fun _ _ _ hexec => effect_errCode (effect_of_exec hexec)

/-! ### Which stimuli write an element -/

/-- Settles O56: each way an instruction ends writes only elements whose row of R21 names that instruction. -/
theorem elementsAreWrittenOnlyByTheirStimuli : Obligations.ElementsAreWrittenOnlyByTheirStimuli := by
  intro i s t hexec hreset
  cases effect_of_exec hexec with
  | resets => exact absurd rfl hreset
  | keeps | reports => simp
  | writesCrc v hi => simpa using fun _ => hi
  | builds frame addr hi =>
    obtain ⟨_, rfl⟩ | ⟨_, _, rfl⟩ | ⟨_, _, rfl⟩ | ⟨_, _, _, _, _, rfl⟩ := hi <;> simp
  | advances r hi => obtain rfl | rfl := hi <;> simp
  | sends | opens | collapses | overflows | appends | tickEnds | tickCounts => simp

/-! ### What an instruction depends on -/

/-- An outcome with other inputs offered after it. -/
def withPending (pending : List Input) :
    Host.Outcome State Fault Refusal → Host.Outcome State Fault Refusal
  | .next t => .next { t with pending := pending }
  | .fault r => .fault r
  | .refused r => .refused r

theorem acceptByte_ports (b : Byte) (s : State) (pending : List Input) (r : Result) :
    acceptByte b { s with pending := pending, result := r } = { acceptByte b s with pending := pending } := by
  simp only [acceptByte]
  split
  · rfl
  · split <;> rfl

theorem activeTick_ports (s : State) (pending : List Input) (r : Result) :
    activeTick { s with pending := pending, result := r } = { activeTick s with pending := pending } := by
  simp only [activeTick]
  split <;> rfl

/-- The two ports reach neither the state an instruction leaves nor what it returns: the inputs after it pass through, the last result
is replaced (R20). -/
theorem exec_ports (i : Instr) (s : State) (pending : List Input) (r : Result) :
    exec i { s with pending := pending, result := r } = withPending pending (exec i s) := by
  cases i with
  | bldData addr cmd noz tx xp =>
    simp only [exec, execBldData]
    split <;> rfl
  | sndData addr cmd noz xp =>
    simp only [exec, execSndData]
    split <;> rfl
  | frameData addr tx3 opc xp =>
    simp only [exec, execFrameData]
    split <;> rfl
  | rxStart addr total =>
    simp only [exec, execRxStart]
    split
    · rfl
    · split <;> rfl
  | bcdConv bytes =>
    simp only [exec, execBcdConv]
    split
    · rfl
    · split <;> rfl
  | rxByte b =>
    simp only [exec, execRxByte, acceptByte_ports]
    split <;> rfl
  | rxTick =>
    simp only [exec, execRxTick, activeTick_ports]
    split <;> rfl
  | nop | crcClr | crcUpd | crcRd | crcBlk | crcChk | bldPoll | bldAck | bldNack | decFrame | rxRd | unpCtrl | unpOpc | unpStat
  | txnRd | txnAdv | txnTake | reset | framePoll | frameAck | frameNack | fieldControl | fieldOpc | fieldStatus => rfl

/-- Settles O57: machines that agree on the twelve elements and the configuration differ in their ports alone. -/
theorem nothingElseSurvivesAStimulus : Obligations.NothingElseSurvivesAStimulus := by
  intro i s s' t t' harch hcfg hexec hexec'
  have hs' : s' = { s with pending := s'.pending, result := s'.result } := by rw [harch, hcfg]
  rw [hs', exec_ports, hexec] at hexec'
  cases hexec'
  exact ⟨rfl, rfl⟩

end Sys2Proof.Proofs
end

section
/-! What a stimulus can leave readable in `RXBUF` (R30, R51). -/

namespace Sys2Proof.Proofs

open Sys2Proof Sys2Proof.Machine

variable {a : Arch} {k : Nat}

/-- The bytes that hold a value are those below `rx_len` (R30). -/
theorem rxRead_eq_none_of_rxLen_le (hk : a.rxLen ≤ k) : a.rxRead k = none :=
  List.getElem?_eq_none hk

/-- A byte read after an append was stored before, or is the one appended (R51). -/
theorem rxRead_of_rxAppend {b v : Byte} (hread : (rxAppend b a).rxRead k = some v) :
    a.rxRead k = some v ∨ (k = a.rxLen ∧ b = v) := by
  rw [rxRead_rxAppend] at hread
  split at hread
  · exact .inl hread
  · split at hread
    next hk => exact .inr ⟨hk, Option.some.inj hread⟩
    · cases hread

/-- A byte read after a truncation was stored before it (R30). -/
theorem rxRead_of_rxTruncate {n : Nat} {v : Byte} (hread : (rxTruncate n a).rxRead k = some v) : a.rxRead k = some v := by
  rw [rxRead_rxTruncate] at hread
  split at hread
  · exact hread
  · cases hread

/-- Only an accepted byte makes a read answer what it did not answer before: `RESET` and `RX_START` empty the buffer, the noise rule
truncates it after the append, and no other ending writes it (R51). -/
theorem effect_rxRead {i : Instr} {s t : State} {v : Byte} (h : Effect s i t) (hread : t.arch.rxRead k = some v) :
    s.arch.rxRead k = some v ∨ (k = s.arch.rxLen ∧ i = .rxByte v) := by
  have happended {b : Byte} (hb : (rxAppend b s.arch).rxRead k = some v) :
      s.arch.rxRead k = some v ∨ (k = s.arch.rxLen ∧ Instr.rxByte b = .rxByte v) :=
    (rxRead_of_rxAppend hb).imp_right (.imp_right (congrArg Instr.rxByte))
  cases h with
  | resets | opens => exact nomatch (rxRead_eq_none_of_rxLen_le (Nat.zero_le k)).symm.trans hread
  | overflows | appends => exact happended hread
  | collapses b n => exact happended (rxRead_of_rxTruncate (a := takeByte b s.arch) hread)
  | keeps | reports | writesCrc | builds | sends | advances | tickEnds | tickCounts => exact .inl hread

/-- Settles O44. -/
theorem storedBytesAreNeverRewritten : Obligations.StoredBytesAreNeverRewritten :=
  ⟨fun _ _ => rxRead_eq_none_of_rxLen_le, fun _ _ _ _ _ hexec => effect_rxRead (effect_of_exec hexec)⟩

end Sys2Proof.Proofs
end

section
/-! The stimulus space: a code of R86 and its operand bytes decode to exactly the stimulus that is written so (log 2). -/

namespace Sys2Proof.Proofs

open Sys2Proof Sys2Proof.Machine

/-! ### 4-bit operands -/

theorem nibbleByte_of_nibbleOf?_eq_some {b : Byte} {n : Nibble} (h : nibbleOf? b = some n) : nibbleByte n = b := by
  have hback : ∀ b : Byte, hiNibble b = 0 → nibbleByte (loNibble b) = b := by decide
  unfold nibbleOf? at h
  split at h
  next hhi =>
    cases h
    exact hback b hhi
  · cases h

theorem decodeNibble_eq_ok {b : Byte} {f : Nibble → Instr} {i : Instr} (h : decodeNibble b f = .ok i) :
    ∃ n, b = nibbleByte n ∧ i = f n := by
  unfold decodeNibble at h
  split at h
  next n hn =>
    cases h
    exact ⟨n, (nibbleByte_of_nibbleOf?_eq_some hn).symm, rfl⟩
  · cases h

@[simp] theorem decodeNibble_nibbleByte (n : Nibble) (f : Nibble → Instr) : decodeNibble (nibbleByte n) f = .ok (f n) := by
  simp [decodeNibble]

/-! ### What each form of operands decodes from -/

theorem decode0_eq_ok {i j : Instr} {ops : List Byte} (h : decode0 j ops = .ok i) : ops = [] ∧ i = j := by
  cases ops with
  | nil =>
    cases h
    exact ⟨rfl, rfl⟩
  | cons => cases h

theorem decode1_eq_ok {i : Instr} {f : Byte → Instr} {ops : List Byte} (h : decode1 f ops = .ok i) :
    ∃ b, ops = [b] ∧ i = f b := by
  unfold decode1 at h
  split at h
  next b =>
    cases h
    exact ⟨b, rfl, rfl⟩
  · cases h

theorem decodeAddrTx_eq_ok {i : Instr} {f : Byte → Nibble → Instr} {ops : List Byte} (h : decodeAddrTx f ops = .ok i) :
    ∃ addr tx, ops = [addr, nibbleByte tx] ∧ i = f addr tx := by
  unfold decodeAddrTx at h
  split at h
  next addr txByte =>
    obtain ⟨tx, rfl, rfl⟩ := decodeNibble_eq_ok h
    exact ⟨addr, tx, rfl, rfl⟩
  · cases h

theorem decodeBldData_eq_ok {i : Instr} {ops : List Byte} (h : decodeBldData ops = .ok i) :
    ∃ addr cmd noz tx xp, ops = addr :: nibbleByte cmd :: noz :: nibbleByte tx :: xp ∧ i = .bldData addr cmd noz tx xp := by
  unfold decodeBldData at h
  split at h
  next addr cmdByte noz txByte xp =>
    split at h
    next cmd hcmd =>
      obtain rfl := nibbleByte_of_nibbleOf?_eq_some hcmd
      obtain ⟨tx, rfl, rfl⟩ := decodeNibble_eq_ok h
      exact ⟨addr, cmd, noz, tx, xp, rfl, rfl⟩
    · cases h
  · cases h

theorem decodeSndData_eq_ok {i : Instr} {ops : List Byte} (h : decodeSndData ops = .ok i) :
    ∃ addr cmd noz xp, ops = addr :: nibbleByte cmd :: noz :: xp ∧ i = .sndData addr cmd noz xp := by
  unfold decodeSndData at h
  split at h
  next addr cmdByte noz xp =>
    obtain ⟨cmd, rfl, rfl⟩ := decodeNibble_eq_ok h
    exact ⟨addr, cmd, noz, xp, rfl, rfl⟩
  · cases h

theorem decodeRxStart_eq_ok {i : Instr} {ops : List Byte} (h : decodeRxStart ops = .ok i) :
    ∃ addr total, ops = [addr, lowByte total, highByte total] ∧ i = .rxStart addr total := by
  unfold decodeRxStart at h
  split at h
  next addr lo hi =>
    cases h
    exact ⟨addr, wordOf lo hi, by simp, rfl⟩
  · cases h

/-! ### The table of R86 -/

/-- `code` and `ops` are how the stimulus `i` is written. -/
def IsWritten (code : Byte) (ops : List Byte) (i : Instr) : Prop :=
  stimulusCode i = some code ∧ operandBytes i = ops

/-- A branch of R86's table: the number it matches is the code of the stimulus it answers. -/
theorem isWritten_of_toNat {code c : Byte} {n : Nat} {ops : List Byte} {i : Instr} (hn : code.toNat = n) (hc : c.toNat = n)
    (hi : stimulusCode i = some c) (hops : operandBytes i = ops) : IsWritten code ops i := by
  obtain rfl : code = c := BitVec.eq_of_toNat_eq (hn.trans hc.symm)
  exact ⟨hi, hops⟩

theorem isWritten_of_decodeOperands {code : Byte} {ops : List Byte} {i : Instr} (h : decodeOperands code ops = .ok i) :
    IsWritten code ops i := by
  unfold decodeOperands at h
  split at h
  -- the branches of R86's table by the form of their operands: a byte sequence, one byte, `addr` and `tx`, and the three of their own
  case h_5 hn | h_6 hn | h_12 hn | h_20 hn =>
    cases h
    exact isWritten_of_toNat hn rfl rfl rfl
  case h_3 hn | h_7 hn | h_14 hn | h_17 hn | h_18 hn | h_19 hn =>
    obtain ⟨b, rfl, rfl⟩ := decode1_eq_ok h
    exact isWritten_of_toNat hn rfl rfl rfl
  case h_8 hn | h_9 hn =>
    obtain ⟨addr, tx, rfl, rfl⟩ := decodeAddrTx_eq_ok h
    exact isWritten_of_toNat hn rfl rfl rfl
  case h_10 hn =>
    obtain ⟨addr, cmd, noz, tx, xp, rfl, rfl⟩ := decodeBldData_eq_ok h
    exact isWritten_of_toNat hn rfl rfl rfl
  case h_11 hn =>
    obtain ⟨addr, cmd, noz, xp, rfl, rfl⟩ := decodeSndData_eq_ok h
    exact isWritten_of_toNat hn rfl rfl rfl
  case h_13 hn =>
    obtain ⟨addr, total, rfl, rfl⟩ := decodeRxStart_eq_ok h
    exact isWritten_of_toNat hn rfl rfl rfl
  case h_25 => cases h
  -- no operands
  all_goals
    obtain ⟨rfl, rfl⟩ := decode0_eq_ok h
    exact isWritten_of_toNat ‹_› rfl rfl rfl

theorem decodeOperands_of_isWritten {code : Byte} {ops : List Byte} {i : Instr} (h : IsWritten code ops i) :
    decodeOperands code ops = .ok i := by
  obtain ⟨hcode, rfl⟩ := h
  cases i with
  | bldAck | bldNack =>
    cases hcode
    exact decodeNibble_nibbleByte _ _
  | bldData addr cmd noz tx xp =>
    cases hcode
    simp [decodeOperands, operandBytes, decodeBldData]
  | sndData addr cmd noz xp =>
    cases hcode
    exact decodeNibble_nibbleByte _ _
  | rxStart addr total =>
    cases hcode
    simp [decodeOperands, operandBytes, decodeRxStart]
  | _ => cases hcode <;> rfl

/-- The stimulus decoder answers exactly the stimulus that is written with the code and the operand bytes it is given. -/
theorem decodeOperands_eq_ok_iff {code : Byte} {ops : List Byte} {i : Instr} :
    decodeOperands code ops = .ok i ↔ IsWritten code ops i :=
  ⟨isWritten_of_decodeOperands, decodeOperands_of_isWritten⟩

/-- The encoder writes a stimulus as its code and its operand bytes. -/
theorem encode_of_isWritten {code : Byte} {ops : List Byte} {i : Instr} (h : IsWritten code ops i) :
    encode i = { space := .stimulus, bytes := code :: ops } := by
  obtain ⟨hcode, rfl⟩ := h
  simp only [encode, hcode]

/-- Only a wire frame can be ill formed (R72), and a stimulus is none. -/
theorem wellFormed_of_stimulusCode_eq_some {code : Byte} {i : Instr} (h : stimulusCode i = some code) : i.wellFormed = true := by
  cases i with
  | frameData => cases h
  | _ => rfl

theorem decode_encode_of_stimulusCode_eq_some {code : Byte} {i : Instr} (h : stimulusCode i = some code) :
    decode (encode i) = .ok i := by
  rw [encode_of_isWritten ⟨h, rfl⟩]
  exact decodeOperands_eq_ok_iff.mpr ⟨h, rfl⟩

/-! ### Codes outside R86 -/

theorem decodeOperands_of_illegalCode {code : Byte} (ops : List Byte)
    (hcode : code ∉ ([0x00, 0x10, 0x11, 0x12, 0x13, 0x14, 0x20, 0x21, 0x22, 0x23, 0x24, 0x30, 0x40, 0x41, 0x42, 0x43, 0x50, 0x51, 0x52,
      0x53, 0x60, 0x61, 0x62, 0xFF] : List Byte)) :
    decodeOperands code ops = .error (.illegalCode code) := by
  unfold decodeOperands
  split
  case h_25 => rfl
  all_goals
    rename_i hn
    refine absurd ?_ hcode
    simp [BitVec.toNat_eq, hn]

/-- Settles O3: the decoder names the code, and `runInput` answers that error with the effect of R87. -/
theorem illegalCodeOnlyWritesErrCode : Obligations.IllegalCodeOnlyWritesErrCode := by
  intro s code ops rest hpending hcode
  have hdecode : decode { space := .stimulus, bytes := code :: ops } = .error (.illegalCode code) :=
    decodeOperands_of_illegalCode ops hcode
  rw [step_of_pending_cons hpending]
  simp only [runInput, hdecode]
  rfl

/-- Settles O10. -/
theorem nopChangesNothing : Obligations.NopChangesNothing :=
  ⟨rfl, fun _ => rfl⟩

end Sys2Proof.Proofs
end

section
/-! The wire space and the byte layouts: which bytes a frame row or a layout row is written with (R71 to R75, R204), and what those
bytes decode to (log 3). -/

namespace Sys2Proof.Proofs

open Sys2Proof Sys2Proof.Machine

/-! ### Wire frames -/

theorem ctrlMaster_wireControl (t : BitVec 3) (code : Nibble) : ctrlMaster (wireControl t code) = true :=
  (packControl_fields 1 t code).1

theorem ctrlTx3_wireControl (t : BitVec 3) (code : Nibble) : ctrlTx3 (wireControl t code) = t :=
  (packControl_fields 1 t code).2.1

theorem ctrlCode_wireControl (t : BitVec 3) (code : Nibble) : ctrlCode (wireControl t code) = code :=
  (packControl_fields 1 t code).2.2

/-- The candidate for a frame row's bytes is that row: the control byte gives the kind and `tx3`, the place of a byte the rest. -/
theorem frameCandidate_of_encode_wire {i : Instr} {bytes : List Byte} (h : encode i = { space := .wire, bytes := bytes }) :
    frameCandidate bytes = some i := by
  cases i with
  | framePoll addr =>
    cases h
    rfl
  | frameAck addr tx3 | frameNack addr tx3 =>
    cases h
    simp [frameCandidate, frameBytes, shortFrame, ctrlCode_wireControl, ctrlTx3_wireControl]
  | frameData addr tx3 opc xp =>
    cases h
    simp [frameCandidate, frameBytes, dataFrame, closeFrame, dataSpan, ctrlTx3_wireControl]
  | _ => cases h

/-- A frame row's encoding holds its bytes in the wire space. -/
theorem frameBytes_of_encode_wire {i : Instr} {bytes : List Byte} (h : encode i = { space := .wire, bytes := bytes }) :
    frameBytes i = bytes := by
  cases i with
  | framePoll | frameAck | frameNack | frameData =>
    cases h
    rfl
  | _ => cases h

/-- A candidate is a frame row, so that its encoding is its bytes on the wire. -/
theorem encode_of_frameCandidate {i : Instr} {bytes : List Byte} (h : frameCandidate bytes = some i) :
    encode i = { space := .wire, bytes := frameBytes i } := by
  unfold frameCandidate at h
  split at h
  · split at h <;> cases h <;> rfl
  · cases h
    rfl
  · cases h

theorem decode_encode_of_encode_wire {i : Instr} {bytes : List Byte} (hwf : i.wellFormed = true)
    (h : encode i = { space := .wire, bytes := bytes }) : decode (encode i) = .ok i := by
  rw [h]
  simp [decode, decodeWire, frameCandidate_of_encode_wire h, hwf, frameBytes_of_encode_wire h]

/-- What a byte sequence on the wire decodes to is well formed, and is the frame row with exactly these bytes or `DEC_FRAME` of
them. -/
theorem decodeWire_cases (bytes : List Byte) :
    (decodeWire bytes).wellFormed = true ∧
      (encode (decodeWire bytes) = { space := .wire, bytes := bytes } ∨ decodeWire bytes = .decFrame bytes) := by
  unfold decodeWire
  split
  next i hcandidate =>
    split
    next hrow =>
      obtain ⟨hwf, hbytes⟩ := hrow
      exact ⟨hwf, .inl (hbytes ▸ encode_of_frameCandidate hcandidate)⟩
    · exact ⟨rfl, .inr rfl⟩
  · exact ⟨rfl, .inr rfl⟩

/-- Performing a frame row gives its bytes to the decoder (R79, R151). -/
theorem exec_of_encode_wire {i : Instr} {bytes : List Byte} (hwf : i.wellFormed = true)
    (h : encode i = { space := .wire, bytes := bytes }) (s : State) : exec i s = .next (decodeSequence bytes s) := by
  cases i with
  | framePoll | frameAck | frameNack =>
    cases h
    rfl
  | frameData addr tx3 opc xp =>
    cases h
    have hfits : ¬ Config.xpMax < xp.length := Nat.not_lt.mpr (of_decide_eq_true hwf)
    exact if_neg hfits
  | _ => cases h

/-! ### Byte layouts -/

theorem decodeByte_eq_ok {i : Instr} {f : Byte → Instr} {bytes : List Byte} (h : decodeByte f bytes = .ok i) :
    ∃ b, bytes = [b] ∧ i = f b := by
  unfold decodeByte at h
  split at h
  · cases h
  next b =>
    cases h
    exact ⟨b, rfl, rfl⟩
  · cases h

/-- The master flag of a packed control byte, as the field of one bit (R73). -/
theorem extractLsb'_packControl (m : BitVec 1) (t : BitVec 3) (c : Nibble) : (packControl m t c).extractLsb' 7 1 = m := by
  revert m t c; decide

theorem packControl_of_fields (b : Byte) : packControl (b.extractLsb' 7 1) (ctrlTx3 b) (ctrlCode b) = b := by
  revert b; decide

theorem packOpc_fields (h n : Nibble) : hiNibble (packOpc h n) = h ∧ loNibble (packOpc h n) = n := by
  revert h n; decide

theorem packOpc_of_fields (b : Byte) : packOpc (hiNibble b) (loNibble b) = b := by
  revert b; decide

theorem packStatus_fields (u e f n : BitVec 1) (code : Nibble) :
    (packStatus u e f n code).extractLsb' 7 1 = u ∧ (packStatus u e f n code).extractLsb' 6 1 = e ∧
      (packStatus u e f n code).extractLsb' 5 1 = f ∧ (packStatus u e f n code).extractLsb' 4 1 = n ∧
      loNibble (packStatus u e f n code) = code := by
  revert u e f n code; decide

theorem packStatus_of_fields (b : Byte) :
    packStatus (b.extractLsb' 7 1) (b.extractLsb' 6 1) (b.extractLsb' 5 1) (b.extractLsb' 4 1) (loNibble b) = b := by
  revert b; decide

theorem decode_encode_fieldControl (m : BitVec 1) (t : BitVec 3) (c : Nibble) :
    decode (encode (.fieldControl m t c)) = .ok (.fieldControl m t c) := by
  obtain ⟨-, htx, hcode⟩ := packControl_fields m t c
  simp [encode, stimulusCode, decode, decodeByte, extractLsb'_packControl, htx, hcode]

theorem decode_encode_fieldOpc (h n : Nibble) : decode (encode (.fieldOpc h n)) = .ok (.fieldOpc h n) := by
  simp [encode, stimulusCode, decode, decodeByte, packOpc_fields]

theorem decode_encode_fieldStatus (u e f n : BitVec 1) (code : Nibble) :
    decode (encode (.fieldStatus u e f n code)) = .ok (.fieldStatus u e f n code) := by
  simp [encode, stimulusCode, decode, decodeByte, packStatus_fields]

/-! ### The round trip -/

/-- Settles O5: by the space an instruction is written in. -/
theorem decodeOfEncodeIsTheInstruction : Obligations.DecodeOfEncodeIsTheInstruction := by
  intro i hwf
  cases i with
  | framePoll | frameAck | frameNack | frameData => exact decode_encode_of_encode_wire hwf rfl
  | fieldControl m t c => exact decode_encode_fieldControl m t c
  | fieldOpc h n => exact decode_encode_fieldOpc h n
  | fieldStatus u e f n code => exact decode_encode_fieldStatus u e f n code
  | _ => exact decode_encode_of_stimulusCode_eq_some rfl

/-- What the stimulus decoder answers is written as the bytes it was given. -/
theorem encode_of_decodeStimulus {i : Instr} {bytes : List Byte} (h : decodeStimulus bytes = .ok i) :
    i.wellFormed = true ∧ encode i = { space := .stimulus, bytes := bytes } := by
  cases bytes with
  | nil => cases h
  | cons code ops =>
    have hwritten : IsWritten code ops i := decodeOperands_eq_ok_iff.mp h
    have hcode : stimulusCode i = some code := hwritten.1
    exact ⟨wellFormed_of_stimulusCode_eq_some hcode, encode_of_isWritten hwritten⟩

/-- Settles O6: by the space the input is offered in. -/
theorem encodeOfDecodeIsTheInput : Obligations.EncodeOfDecodeIsTheInput := by
  rintro ⟨space, bytes⟩ i h
  cases space with
  | stimulus =>
    obtain ⟨hwf, hencode⟩ := encode_of_decodeStimulus h
    exact ⟨hwf, fun _ => hencode, nofun⟩
  | wire =>
    cases h
    obtain ⟨hwf, hrow⟩ := decodeWire_cases bytes
    exact ⟨hwf, fun hspace => absurd rfl hspace, fun _ => hrow⟩
  | control =>
    obtain ⟨b, rfl, rfl⟩ := decodeByte_eq_ok h
    exact ⟨rfl, fun _ => by simp [encode, stimulusCode, packControl_of_fields], nofun⟩
  | opc =>
    obtain ⟨b, rfl, rfl⟩ := decodeByte_eq_ok h
    exact ⟨rfl, fun _ => by simp [encode, stimulusCode, packOpc_of_fields], nofun⟩
  | status =>
    obtain ⟨b, rfl, rfl⟩ := decodeByte_eq_ok h
    exact ⟨rfl, fun _ => by simp [encode, stimulusCode, packStatus_of_fields], nofun⟩

/-- Settles O8: a frame row gives its bytes to the decoder, as `DEC_FRAME` of them does. -/
theorem wireInputsActAsDecFrame : Obligations.WireInputsActAsDecFrame := by
  intro bytes i s h
  cases h
  obtain ⟨hwf, hrow | hdec⟩ := decodeWire_cases bytes
  · exact exec_of_encode_wire hwf hrow s
  · rw [hdec]

/-! ### Words of the opcode table -/

/-- A word that stands for an instruction's encoding is read as that instruction (log 8). -/
theorem decodeTableWord_of_tableInput {nbits w : Nat} {i : Instr} (hinput : tableInput nbits w = encode i)
    (hwf : i.wellFormed = true) : decodeTableWord nbits w = some i := by
  simp only [decodeTableWord, hinput, decodeOfEncodeIsTheInstruction i hwf]

/-- Settles O7: each word stands for its row's encoding, and 0x99 for no row's. -/
theorem tableWordsDecodeToTheirRows : Obligations.TableWordsDecodeToTheirRows := by
  refine ⟨?_, ?_, ?_, ?_, ?_, ?_, ?_, ?_, ?_, ?_, ?_, rfl⟩
  all_goals exact decodeTableWord_of_tableInput rfl rfl

end Sys2Proof.Proofs
end

section
/-! The control and `opc` bytes (R74, R75), and the frames the encoder builds with them as frame rows of the table (R71, R72). -/

namespace Sys2Proof.Proofs

open Sys2Proof Sys2Proof.Machine

/-! ### Fields of bytes in the spec's arithmetic -/

/-- Settles O22. -/
theorem controlByteFollowsTheFormula : Obligations.ControlByteFollowsTheFormula := by
  intro tx code
  obtain ⟨hmaster, htx3, hcode⟩ := controlByte_fields tx code
  have hformula : (controlByte tx code).toNat = (0x80 ||| (tx.toNat <<< 4) ||| code.toNat) % 256 ∧
      (controlByte tx code).toNat = 0x80 ||| ((tx.toNat &&& 7) <<< 4) ||| code.toNat := by
    revert tx code; decide
  exact ⟨hformula.1, hformula.2, hmaster, by rw [htx3]; rfl, hcode⟩

theorem addrOk_eq_decide_toNat (addr : Byte) : addrOk addr = decide (0x50 ≤ addr.toNat ∧ addr.toNat ≤ 0x6F) :=
  (Bool.decide_and _ _).symm

theorem hiNibble_eq_ofNat (b : Byte) : hiNibble b = BitVec.ofNat 4 (b.toNat / 16) := by
  simp [hiNibble, BitVec.extractLsb', Nat.shiftRight_eq_div_pow]

theorem loNibble_eq_ofNat (b : Byte) : loNibble b = BitVec.ofNat 4 b.toNat := rfl

/-- The control byte of a frame row, by the formula of R74. -/
theorem wireControl_eq_ofNat (tx3 : BitVec 3) (code : Nibble) :
    wireControl tx3 code = BitVec.ofNat 8 (0x80 ||| (tx3.toNat <<< 4) ||| code.toNat) := by
  revert tx3 code; decide

/-- The outbound `opc` byte keeps the command and the low nibble of the nozzle number (R75). -/
theorem opcByte_eq_packOpc (cmd : Nibble) (noz : Byte) : opcByte cmd noz = packOpc cmd (loNibble noz) := by
  have hlow : ∀ noz : Byte, noz &&& 0x0F = nibbleByte (loNibble noz) := by decide
  have hpack : ∀ h n : Nibble, ((h.setWidth 12 <<< 4) ||| (nibbleByte n).setWidth 12).setWidth 8 = packOpc h n := by decide
  rw [opcByte, hlow, hpack]

/-! ### Every built frame is a frame row -/

theorem builtDataFrame_eq_frameBytes (addr : Byte) (cmd : Nibble) (noz : Byte) (tx : Nibble) (xp : List Byte) :
    builtDataFrame addr cmd noz tx xp = frameBytes (.frameData addr (BitVec.ofNat 3 tx.toNat) (cmd ++ BitVec.ofNat 4 noz.toNat) xp) := by
  rw [builtDataFrame, controlByte_eq_wireControl, opcByte_eq_packOpc]
  rfl

theorem execBldData_of_length_le {xp : List Byte} (hxp : xp.length ≤ 254) (addr : Byte) (cmd : Nibble) (noz : Byte) (tx : Nibble)
    (s : State) :
    exec (.bldData addr cmd noz tx xp) s = .next (buildFrame (builtDataFrame addr cmd noz tx xp) addr s) :=
  if_neg (Nat.not_lt.mpr hxp)

/-- Settles O9. -/
theorem builtFramesAreTheWireRows : Obligations.BuiltFramesAreTheWireRows := by
  intro s addr cmd noz tx xp
  refine ⟨⟨_, rfl, rfl⟩, ⟨_, rfl, ?_⟩, ⟨_, rfl, ?_⟩, fun hxp => ⟨_, execBldData_of_length_le hxp _ _ _ _ _, ?_⟩⟩
  · rw [buildFrame_arch, controlByte_eq_wireControl]
    rfl
  · rw [buildFrame_arch, controlByte_eq_wireControl]
    rfl
  · rw [buildFrame_arch, builtDataFrame_eq_frameBytes]
    rfl

end Sys2Proof.Proofs
end

section
/-! What the decoder reads from a frame of R71 or R72: the residue of a closed span (R104), the tests of R155 to R158 and the records of
R152. -/

namespace Sys2Proof.Proofs

open Sys2Proof Sys2Proof.Machine

/-! ### The residue of a closed span is zero (R104) -/

/-- An iteration of R100 with bit 0 clear only shifts, so `n` of them do while the low `n` bits are clear. -/
theorem crcShifts_of_low_clear (n : Nat) (c : Word16) (hlow : ∀ i < n, c.getLsbD i = false) : crcShifts n c = c >>> n := by
  induction n generalizing c with
  | zero => simp [crcShifts]
  | succ n ih =>
    have hshift : crcShift c = c >>> 1 := by
      rw [crcShift, hlow 0 n.succ_pos]
      rfl
    have hclear : ∀ i < n, (c >>> 1).getLsbD i = false := fun i hi => by
      simpa [Nat.add_comm] using hlow (i + 1) (by omega)
    rw [crcShifts, hshift, ih _ hclear, ← BitVec.shiftRight_add, Nat.add_comm]

/-- Eating its own low byte shifts the value's high byte down. -/
theorem crcStep_lowByte (c : Word16) : crcStep c (lowByte c) = (highByte c).setWidth 16 := by
  have hlow : ∀ i < 8, (c ^^^ (lowByte c).setWidth 16).getLsbD i = false := fun i hi => by
    have h16 : i < 16 := by omega
    simp [lowByte, hi, h16]
  rw [crcStep, crcShifts_of_low_clear 8 _ hlow]
  ext i hi
  simp only [lowByte, highByte, BitVec.getElem_ushiftRight, BitVec.getLsbD_xor]
  by_cases hhigh : i < 8
  · simp [hhigh]
  · simp [hhigh, BitVec.getLsbD_of_ge c (8 + i) (by omega)]

/-- A one-byte value that eats this byte is gone. -/
theorem crcStep_setWidth_self (b : Byte) : crcStep (b.setWidth 16) b = 0 := by
  rw [crcStep, BitVec.xor_self]
  rfl

theorem crc16_append_checkBytes (span : List Byte) :
    crc16 (span ++ [lowByte (crc16 span), highByte (crc16 span)]) = 0 := by
  have hfold : crc16 (span ++ [lowByte (crc16 span), highByte (crc16 span)]) =
      crcStep (crcStep (crc16 span) (lowByte (crc16 span))) (highByte (crc16 span)) := List.foldl_append
  rw [hfold, crcStep_lowByte, crcStep_setWidth_self]

/-! ### The parts of a closed span -/

theorem closeFrame_length (span : List Byte) : (closeFrame span).length = span.length + 4 := by
  simp [closeFrame]

theorem tailLength_closeFrame (span : List Byte) : tailLength (closeFrame span) = 2 := by
  simp [tailLength, closeFrame]

theorem spanLength_closeFrame (span : List Byte) : spanLength (closeFrame span) = span.length := by
  rw [spanLength, closeFrame_length, tailLength_closeFrame]
  omega

/-- The four bytes after the span: the CRC low byte first, ETX, STOP_FLAG (R72). -/
theorem byteAt_closeFrame_tail (span : List Byte) (k : Nat) :
    byteAt (closeFrame span) (span.length + k) =
      byteAt [lowByte (crc16 span), highByte (crc16 span), Config.etx, Config.stopFlag] k := by
  rw [byteAt, closeFrame, List.getD_append_right _ _ _ _ (Nat.le_add_right _ _), Nat.add_sub_cancel_left]
  rfl

/-- The check bytes, low byte first (R57), are the CRC of the span. -/
theorem wordOf_checkBytes (span : List Byte) :
    wordOf (byteAt (closeFrame span) span.length) (byteAt (closeFrame span) (span.length + 1)) = crc16 span := by
  have hlow : byteAt (closeFrame span) span.length = lowByte (crc16 span) := byteAt_closeFrame_tail span 0
  have hhigh : byteAt (closeFrame span) (span.length + 1) = highByte (crc16 span) := byteAt_closeFrame_tail span 1
  rw [hlow, hhigh, wordOf_lowByte_highByte]

theorem crc16_take_closeFrame (span : List Byte) : crc16 ((closeFrame span).take (span.length + 2)) = 0 := by
  have htake : (closeFrame span).take (span.length + 2) = span ++ [lowByte (crc16 span), highByte (crc16 span)] := by
    simp [closeFrame, List.take_append]
  rw [htake, crc16_append_checkBytes]

/-! ### What the decoder reads from the frames of R71 and R72 -/

theorem decodeFrame_shortFrame (addr control : Byte) :
    decodeFrame (shortFrame addr control) = .short (shortRecord addr control Config.stopFlag) := rfl

/-- The record of a short frame row, its fields from the row's. -/
theorem shortRecord_wireControl (addr : Byte) (tx3 : BitVec 3) (code : Nibble) :
    shortRecord addr (wireControl tx3 code) Config.stopFlag =
      { address := addr, control := wireControl tx3 code, masterFlag := true, tx3 := tx3, code := code, cls := frameClass code
        stopOk := true, addrOk := addrOk addr } := by
  simp only [shortRecord, ctrlMaster_wireControl, ctrlTx3_wireControl, ctrlCode_wireControl]
  rfl

/-- The `length` byte of a frame that fits counts the `opc` byte and the extra payload without loss (R76). -/
theorem toNat_lengthByte {xp : List Byte} (hxp : xp.length ≤ 254) : (BitVec.ofNat 8 (1 + xp.length)).toNat = 1 + xp.length := by
  rw [BitVec.toNat_ofNat]
  omega

theorem dataSpan_length (addr control opc : Byte) (xp : List Byte) : (dataSpan addr control opc xp).length = 4 + xp.length := by
  simp [dataSpan]
  omega

theorem slice_dataFrame (addr control opc : Byte) (xp : List Byte) :
    slice (dataFrame addr control opc xp) 4 (4 + xp.length) = xp := by
  simp [slice, dataFrame, closeFrame, dataSpan, Nat.add_comm 4]

theorem byteAt_dataFrame_header (addr control opc : Byte) (xp : List Byte) :
    byteAt (dataFrame addr control opc xp) 0 = addr ∧ byteAt (dataFrame addr control opc xp) 1 = control ∧
      byteAt (dataFrame addr control opc xp) 2 = BitVec.ofNat 8 (1 + xp.length) ∧
      byteAt (dataFrame addr control opc xp) 3 = opc :=
  ⟨rfl, rfl, rfl, rfl⟩

/-- The record of a DATA frame (R152, R159). -/
theorem dataRecord_dataFrame (addr control opc : Byte) {xp : List Byte} (hxp : xp.length ≤ 254) :
    dataRecord (dataFrame addr control opc xp) =
      { address := addr, control := control, masterFlag := ctrlMaster control, tx3 := ctrlTx3 control, code := ctrlCode control
        length := BitVec.ofNat 8 (1 + xp.length), opc := opc, opcHi := hiNibble opc, nozzle := loNibble opc, payload := xp
        crc := crc16 (dataSpan addr control opc xp), etxOk := true, stopPresent := true, addrOk := addrOk addr } := by
  obtain ⟨h0, h1, h2, h3⟩ := byteAt_dataFrame_header addr control opc xp
  have hpayload : slice (dataFrame addr control opc xp) 4 (3 + (1 + xp.length)) = xp := by
    rw [← Nat.add_assoc, slice_dataFrame]
  simp only [dataRecord, h0, h1, h2, h3, toNat_lengthByte hxp, hpayload]
  simp only [dataFrame, spanLength_closeFrame, tailLength_closeFrame]
  rw [wordOf_checkBytes, byteAt_closeFrame_tail]
  rfl

/-- A DATA frame that fits passes the four tests of R155 to R158. -/
theorem decodeFrame_dataFrame (addr control opc : Byte) {xp : List Byte} (hcode : ctrlCode control = Config.ccData)
    (hxp : xp.length ≤ 254) :
    decodeFrame (dataFrame addr control opc xp) = .data (dataRecord (dataFrame addr control opc xp)) := by
  obtain ⟨-, h1, h2, -⟩ := byteAt_dataFrame_header addr control opc xp
  have hlen := dataFrame_length addr control opc xp
  have hspan : spanLength (dataFrame addr control opc xp) = 4 + xp.length :=
    (spanLength_closeFrame _).trans (dataSpan_length addr control opc xp)
  have hshort : ¬ (dataFrame addr control opc xp).length = 3 := by omega
  have hclass : ¬ ((dataFrame addr control opc xp).length < 7 ∨ ctrlCode control ≠ Config.ccData) := by
    rw [hcode]
    simp
    omega
  have hresidue : crc16 ((dataFrame addr control opc xp).take (4 + xp.length + 2)) = 0 := by
    rw [← dataSpan_length addr control opc xp]
    exact crc16_take_closeFrame _
  have hlength : ¬ (1 + xp.length = 0 ∨ 3 + (1 + xp.length) ≠ 4 + xp.length) := by omega
  rw [decodeFrame, h1, h2, hspan, toNat_lengthByte hxp, if_neg hshort, if_neg hclass, if_neg (by omega),
    if_neg (not_not.mpr hresidue), if_neg hlength]

/-- A sequence that does not decode to an UNPARSEABLE record leaves `err_code` 0 (R160). -/
theorem decodeSequence_of_errName_ok {bytes : List Byte} {d : Decoded} (hdecode : decodeFrame bytes = d) (hok : d.errName = .ok)
    (s : State) : decodeSequence bytes s = { s with arch := { s.arch with errCode := 0 }, result := .decoded d } := by
  rw [decodeSequence, hdecode, hok]
  rfl

/-- A short frame row given to the decoder. -/
theorem decodeSequence_shortFrame_wireControl (addr : Byte) (tx3 : BitVec 3) (code : Nibble) (s : State) :
    decodeSequence (shortFrame addr (wireControl tx3 code)) s = { s with
      arch := { s.arch with errCode := 0 }
      result := .decoded (.short
        { address := addr, control := wireControl tx3 code, masterFlag := true, tx3 := tx3, code := code, cls := frameClass code
          stopOk := true, addrOk := addrOk addr }) } :=
  decodeSequence_of_errName_ok
    ((decodeFrame_shortFrame addr _).trans (congrArg Decoded.short (shortRecord_wireControl addr tx3 code))) rfl s

/-- A `FRAME_DATA` row that fits, given to the decoder. -/
theorem decodeSequence_dataFrame_wireControl (addr : Byte) (tx3 : BitVec 3) (opc : Byte) {xp : List Byte} (hxp : xp.length ≤ 254)
    (s : State) :
    decodeSequence (dataFrame addr (wireControl tx3 Config.ccData) opc xp) s = { s with
      arch := { s.arch with errCode := 0 }
      result := .decoded (.data
        { address := addr, control := wireControl tx3 Config.ccData, masterFlag := true, tx3 := tx3, code := Config.ccData
          length := BitVec.ofNat 8 (1 + xp.length), opc := opc, opcHi := hiNibble opc, nozzle := loNibble opc, payload := xp
          crc := crc16 (dataSpan addr (wireControl tx3 Config.ccData) opc xp), etxOk := true, stopPresent := true
          addrOk := addrOk addr }) } := by
  have hdecode := decodeFrame_dataFrame addr (wireControl tx3 Config.ccData) opc (ctrlCode_wireControl tx3 _) hxp
  rw [dataRecord_dataFrame _ _ _ hxp, ctrlMaster_wireControl, ctrlTx3_wireControl, ctrlCode_wireControl] at hdecode
  exact decodeSequence_of_errName_ok hdecode rfl s

/-- Settles O30: each row gives its bytes to the decoder, and their record has the row's fields. -/
theorem frameRowsDecodeAsTheirKind : Obligations.FrameRowsDecodeAsTheirKind := by
  intro s addr tx3 opc xp ok control
  have hok : ok = addrOk addr := (addrOk_eq_decide_toNat addr).symm
  have hack : control 2 = wireControl tx3 Config.ccAck := (wireControl_eq_ofNat tx3 Config.ccAck).symm
  have hnack : control 3 = wireControl tx3 Config.ccNack := (wireControl_eq_ofNat tx3 Config.ccNack).symm
  have hdata : control 4 = wireControl tx3 Config.ccData := (wireControl_eq_ofNat tx3 Config.ccData).symm
  rw [hok, hack, hnack, hdata]
  refine ⟨?_, ?_, ?_, fun hxp => ?_⟩
  · rw [exec_of_encode_wire rfl rfl]
    exact congrArg _ (decodeSequence_shortFrame_wireControl addr 0 Config.ccPoll s)
  · rw [exec_of_encode_wire rfl rfl]
    exact congrArg _ (decodeSequence_shortFrame_wireControl addr tx3 Config.ccAck s)
  · rw [exec_of_encode_wire rfl rfl]
    exact congrArg _ (decodeSequence_shortFrame_wireControl addr tx3 Config.ccNack s)
  · have hwf : (Instr.frameData addr tx3 opc xp).wellFormed = true := decide_eq_true hxp
    rw [exec_of_encode_wire hwf rfl, ← hiNibble_eq_ofNat, ← loNibble_eq_ofNat]
    exact congrArg _ (decodeSequence_dataFrame_wireControl addr tx3 opc hxp s)

end Sys2Proof.Proofs
end

section
/-! What the unpacker reads from the byte layouts of R73, R75 and R204. -/

namespace Sys2Proof.Proofs

open Sys2Proof Sys2Proof.Machine

theorem ctrlKind_eq_ite (c : Nibble) :
    ctrlKind c = if c.toNat = 1 then .poll else if c.toNat = 2 then .ack else if c.toNat = 3 then .nack
      else if c.toNat = 4 then .data else if c.toNat = 5 then .ackPoll else .unnamed := by
  revert c; decide

theorem getLsbD_zero_eq_decide (b : BitVec 1) : b.getLsbD 0 = decide (b = 1) := by
  revert b; decide

theorem unpackControl_packControl (m : BitVec 1) (t : BitVec 3) (c : Nibble) :
    unpackControl (packControl m t c) = .control (decide (m = 1)) t c (ctrlKind c) := by
  obtain ⟨hmaster, htx3, hcode⟩ := packControl_fields m t c
  rw [unpackControl, hmaster, htx3, hcode, getLsbD_zero_eq_decide]

theorem unpackOpc_packOpc (h n : Nibble) : unpackOpc (packOpc h n) = .opc h n := by
  obtain ⟨hhi, hlo⟩ := packOpc_fields h n
  rw [unpackOpc, hhi, hlo]

/-- Bit 7 does not occur in the result (R205). -/
theorem unpackStatus_packStatus (u e f n : BitVec 1) (code : Nibble) :
    unpackStatus (packStatus u e f n code) = .status code (decide (n = 1)) (decide (f = 1)) (decide (e = 1)) := by
  revert u e f n code; decide

/-- Settles O47. -/
theorem layoutRowsUnpackToTheirFields : Obligations.LayoutRowsUnpackToTheirFields := by
  intro s m t c h n code u e f on
  refine ⟨?_, ?_, ?_⟩
  · rw [← ctrlKind_eq_ite, ← unpackControl_packControl]
    rfl
  · rw [← unpackOpc_packOpc]
    rfl
  · rw [← unpackStatus_packStatus u]
    rfl

end Sys2Proof.Proofs
end

section
/-! The CRC-16 of U1 (R100, R101): its update is linear over exclusive OR and injective in the value, and the five stimuli of U1 are
read off `crcStep` and `crc16`. -/

namespace Sys2Proof.Proofs

open Sys2Proof Sys2Proof.Machine

/-! ### One iteration of R100 -/

/-- The iteration as one exclusive OR: the shifted value, and the polynomial if bit 0 was set. -/
theorem crcShift_eq_xor_ite (c : Word16) : crcShift c = (c >>> 1) ^^^ (if c.getLsbD 0 then Config.poly else 0) := by
  rw [crcShift]
  split <;> simp

theorem crcShift_xor (a b : Word16) : crcShift (a ^^^ b) = crcShift a ^^^ crcShift b := by
  have hfeedback : (if (a ^^^ b).getLsbD 0 then Config.poly else 0) =
      (if a.getLsbD 0 then Config.poly else 0) ^^^ (if b.getLsbD 0 then Config.poly else 0) := by
    rw [BitVec.getLsbD_xor]
    cases a.getLsbD 0 <;> cases b.getLsbD 0 <;> rfl
  simp only [crcShift_eq_xor_ite, BitVec.ushiftRight_xor_distrib, hfeedback]
  ac_rfl

/-- Bit 15 comes from the polynomial alone, so the value still tells whether bit 0 was set. -/
theorem crcShift_getLsbD_15 (c : Word16) : (crcShift c).getLsbD 15 = c.getLsbD 0 := by
  rw [crcShift_eq_xor_ite]
  cases c.getLsbD 0 <;> simp

theorem eq_zero_of_crcShift_eq_zero {c : Word16} (hzero : crcShift c = 0) : c = 0 := by
  have hlow : c.getLsbD 0 = false := by rw [← crcShift_getLsbD_15, hzero]; rfl
  have hshift : c >>> 1 = 0 := by
    rw [crcShift_eq_xor_ite, hlow] at hzero
    simpa using hzero
  refine BitVec.eq_of_getLsbD_eq fun i _ => ?_
  cases i with
  | zero => simpa using hlow
  | succ i => simpa [Nat.add_comm] using congrArg (BitVec.getLsbD · i) hshift

theorem crcShift_injective : Function.Injective crcShift := by
  intro a b hab
  have hxor : crcShift (a ^^^ b) = 0 := by rw [crcShift_xor, hab, BitVec.xor_self]; rfl
  exact BitVec.xor_eq_zero_iff.mp (eq_zero_of_crcShift_eq_zero hxor)

/-! ### Eight iterations, and the update by a byte -/

theorem crcShifts_eq_iterate (n : Nat) : crcShifts n = crcShift^[n] := by
  induction n with
  | zero => rfl
  | succ n ih =>
    funext c
    rw [crcShifts, ih, Function.iterate_succ_apply]

theorem crcShifts_xor (n : Nat) (a b : Word16) : crcShifts n (a ^^^ b) = crcShifts n a ^^^ crcShifts n b := by
  induction n generalizing a b with
  | zero => rfl
  | succ n ih => simp only [crcShifts, crcShift_xor, ih]

theorem crcStep_xor (c d : Word16) (x y : Byte) : crcStep (c ^^^ d) (x ^^^ y) = crcStep c x ^^^ crcStep d y := by
  have hargument : (c ^^^ d) ^^^ (x ^^^ y).setWidth 16 = (c ^^^ x.setWidth 16) ^^^ (d ^^^ y.setWidth 16) := by
    rw [BitVec.setWidth_xor]
    ac_rfl
  rw [crcStep, hargument, crcShifts_xor]
  rfl

theorem crcStep_injective (b : Byte) : Function.Injective (crcStep · b) := by
  intro c d hcd
  have hshifts : Function.Injective (crcShifts 8) := crcShifts_eq_iterate 8 ▸ crcShift_injective.iterate 8
  exact (BitVec.xor_left_inj _).mp (hshifts hcd)

/-- The only value that a low and a high byte take to zero is the value of these bytes. -/
theorem crcStep_crcStep_eq_zero_iff (c : Word16) (lo hi : Byte) : crcStep (crcStep c lo) hi = 0 ↔ c = wordOf lo hi := by
  have hlow : crcStep (wordOf lo hi) lo = hi.setWidth 16 := by simpa using crcStep_lowByte (wordOf lo hi)
  calc crcStep (crcStep c lo) hi = 0
      ↔ crcStep (crcStep c lo) hi = crcStep (hi.setWidth 16) hi := by rw [crcStep_setWidth_self]
    _ ↔ crcStep c lo = hi.setWidth 16 := (crcStep_injective hi).eq_iff
    _ ↔ crcStep c lo = crcStep (wordOf lo hi) lo := by rw [hlow]
    _ ↔ c = wordOf lo hi := (crcStep_injective lo).eq_iff

/-! ### The bytes of a 16-bit value -/

theorem lowByte_eq_ofNat (v : Word16) : lowByte v = BitVec.ofNat 8 v.toNat := rfl

theorem highByte_eq_ofNat (v : Word16) : highByte v = BitVec.ofNat 8 (v.toNat / 256) := by
  simp [highByte, BitVec.extractLsb', Nat.shiftRight_eq_div_pow]

theorem eq_wordOf_iff (v : Word16) (lo hi : Byte) : v = wordOf lo hi ↔ lo = lowByte v ∧ hi = highByte v := by
  constructor
  · rintro rfl
    simp
  · rintro ⟨rfl, rfl⟩
    simp

/-! ### Whole sequences -/

/-- Settles O15: the two bytes take the sequence's CRC to zero exactly when it is their value. -/
theorem zeroResidueIffCheckBytesMatch : Obligations.ZeroResidueIffCheckBytesMatch := by
  intro bytes x y
  have hfold : crc16 (bytes ++ [x, y]) = crcStep (crcStep (crc16 bytes) x) y := List.foldl_append
  rw [hfold, ← lowByte_eq_ofNat, ← highByte_eq_ofNat, ← eq_wordOf_iff]
  exact crcStep_crcStep_eq_zero_iff _ x y

theorem foldl_crcStep_xor {a b : List Byte} (hlen : a.length = b.length) (c d : Word16) :
    (List.zipWith (· ^^^ ·) a b).foldl crcStep (c ^^^ d) = a.foldl crcStep c ^^^ b.foldl crcStep d := by
  induction a generalizing b c d with
  | nil =>
    obtain rfl := List.eq_nil_of_length_eq_zero hlen.symm
    rfl
  | cons x a ih =>
    obtain ⟨y, b, rfl⟩ := List.exists_cons_of_length_eq_add_one hlen.symm
    simp only [List.zipWith_cons_cons, List.foldl_cons, crcStep_xor]
    exact ih (Nat.succ.inj hlen) _ _

/-- Settles O16: R101's initial value is zero, hence its own exclusive OR with itself. -/
theorem crcIsLinearOverXor : Obligations.CrcIsLinearOverXor :=
  fun _ _ hlen => foldl_crcStep_xor hlen Config.crcInit Config.crcInit

/-! ### The stimuli of U1 -/

theorem exec_crcClr (s : State) : exec .crcClr s = .next (succeed { s.arch with crc := Config.crcInit } .noResult s) := rfl

theorem exec_crcUpd (b : Byte) (s : State) :
    exec (.crcUpd b) s = .next (succeed { s.arch with crc := crcStep s.arch.crc b } .noResult s) := rfl

/-- Once a stimulus has written `crc` and cleared `err_code`, a run of `CRC_UPD` only folds its bytes into `crc`. -/
theorem execAll_map_crcUpd (bytes : List Byte) (a : Arch) (c : Word16) (s : State) :
    execAll (bytes.map .crcUpd) (succeed { a with crc := c } .noResult s) =
      .next (succeed { a with crc := bytes.foldl crcStep c } .noResult s) := by
  induction bytes generalizing c with
  | nil => rfl
  | cons b bytes ih =>
    rw [List.map_cons, execAll, exec_crcUpd]
    exact ih (crcStep c b)

/-- Settles O17. -/
theorem streamingCrcAgreesWithBlockForm : Obligations.StreamingCrcAgreesWithBlockForm := by
  intro bytes s
  rw [execAll, exec_crcClr]
  exact execAll_map_crcUpd bytes s.arch Config.crcInit s

/-- Settles O13: R100's update in the spec's numbers is `crcStep`. -/
theorem crcClearAndUpdateWriteCrc : Obligations.CrcClearAndUpdateWriteCrc := by
  unfold Obligations.CrcClearAndUpdateWriteCrc
  intro shift update
  have hupdate : update = crcStep := by
    funext c b
    rw [crcStep, crcShifts_eq_iterate]
    rfl
  rw [hupdate]
  exact ⟨fun _ => rfl, fun s b => ⟨rfl, rfl, exec_crcClr s, exec_crcUpd b s⟩⟩

/-- Settles O14. -/
theorem crcReadingStimuliLeaveCrc : Obligations.CrcReadingStimuliLeaveCrc := by
  intro s bytes
  rw [← lowByte_eq_ofNat, ← highByte_eq_ofNat]
  exact ⟨rfl, rfl, rfl, rfl, rfl, rfl⟩

end Sys2Proof.Proofs
end

section
/-! The encoder U2 (R120 to R130): the bytes of its frames by the formulas of R74 and R75, what each of its stimuli does, and what the
decoder reads from the frames it leaves in `TXBUF`. -/

namespace Sys2Proof.Proofs

open Sys2Proof Sys2Proof.Machine

/-! ### The control and `opc` bytes by their formulas, and their aliases -/

theorem controlByte_eq_ofNat (tx code : Nibble) :
    controlByte tx code = BitVec.ofNat 8 (0x80 ||| (tx.toNat <<< 4) ||| code.toNat) :=
  BitVec.eq_of_toNat_eq (controlByteFollowsTheFormula tx code).1

theorem packOpc_eq_ofNat (h n : Nibble) : packOpc h n = BitVec.ofNat 8 ((h.toNat <<< 4) ||| n.toNat) := by
  revert h n; decide

theorem toNat_loNibble (b : Byte) : (loNibble b).toNat = b.toNat &&& 0xF := by
  rw [loNibble_eq_ofNat, BitVec.toNat_ofNat]
  exact (Nat.and_two_pow_sub_one_eq_mod b.toNat 4).symm

theorem opcByte_eq_ofNat (cmd : Nibble) (noz : Byte) :
    opcByte cmd noz = BitVec.ofNat 8 ((cmd.toNat <<< 4) ||| (noz.toNat &&& 0xF)) := by
  rw [opcByte_eq_packOpc, packOpc_eq_ofNat, toNat_loNibble]

/-- Bit 3 of the transaction number does not reach the control byte (R74, R125). -/
theorem controlByte_add_eight (tx code : Nibble) : controlByte (tx + 8) code = controlByte tx code := by
  have htx3 : (tx + 8).setWidth 3 = tx.setWidth 3 := by
    revert tx; decide
  rw [controlByte_eq_wireControl, controlByte_eq_wireControl, htx3]

/-- Bits 7 to 4 of the nozzle number do not reach the `opc` byte (R75, R125). -/
theorem opcByte_add_sixteen (cmd : Nibble) (noz : Byte) : opcByte cmd (noz + 16) = opcByte cmd noz := by
  have hlow : loNibble (noz + 16) = loNibble noz := by
    revert noz; decide
  rw [opcByte_eq_packOpc, opcByte_eq_packOpc, hlow]

theorem builtDataFrame_tx_add_eight (addr : Byte) (cmd : Nibble) (noz : Byte) (tx : Nibble) (xp : List Byte) :
    builtDataFrame addr cmd noz (tx + 8) xp = builtDataFrame addr cmd noz tx xp := by
  simp only [builtDataFrame, controlByte_add_eight]

theorem builtDataFrame_noz_add_sixteen (addr : Byte) (cmd : Nibble) (noz : Byte) (tx : Nibble) (xp : List Byte) :
    builtDataFrame addr cmd (noz + 16) tx xp = builtDataFrame addr cmd noz tx xp := by
  simp only [builtDataFrame, opcByte_add_sixteen]

/-! ### What the stimuli of U2 do -/

theorem exec_bldPoll (addr : Byte) (s : State) :
    exec (.bldPoll addr) s = .next (buildFrame (shortFrame addr pollControl) addr s) := rfl

theorem exec_bldAck (addr : Byte) (tx : Nibble) (s : State) :
    exec (.bldAck addr tx) s = .next (buildFrame (shortFrame addr (controlByte tx Config.ccAck)) addr s) := rfl

theorem exec_bldNack (addr : Byte) (tx : Nibble) (s : State) :
    exec (.bldNack addr tx) s = .next (buildFrame (shortFrame addr (controlByte tx Config.ccNack)) addr s) := rfl

/-- Both ends of `BLD_DATA` (R124, R127). -/
theorem exec_bldData (addr : Byte) (cmd : Nibble) (noz : Byte) (tx : Nibble) (xp : List Byte) (s : State) :
    exec (.bldData addr cmd noz tx xp) s =
      if 254 < xp.length then .next (raiseFailure (.lengthOverflow xp.length) s)
      else .next (buildFrame (builtDataFrame addr cmd noz tx xp) addr s) := rfl

/-- Both ends of `SND_DATA` (R128, R127). -/
theorem exec_sndData (addr : Byte) (cmd : Nibble) (noz : Byte) (xp : List Byte) (s : State) :
    exec (.sndData addr cmd noz xp) s =
      if 254 < xp.length then .next (raiseFailure (.lengthOverflow xp.length) s)
      else .next (succeed (advanceTxn (txLoad (builtDataFrame addr cmd noz s.arch.txn xp) s.arch))
        (.sent (builtDataFrame addr cmd noz s.arch.txn xp) (addrOk addr) s.arch.txn) s) := rfl

/-- Settles O21: both builders end in the failure, which writes `err_code` alone. -/
theorem tooLongPayloadIsRefused : Obligations.TooLongPayloadIsRefused := by
  intro s addr cmd noz tx xp i hlong hi
  have hexec : exec i s = .next (raiseFailure (.lengthOverflow xp.length) s) := by
    obtain rfl | rfl := hi
    · rw [exec_bldData, if_pos hlong]
    · rw [exec_sndData, if_pos hlong]
  exact ⟨_, hexec, rfl, rfl, rfl, rfl, rfl, rfl⟩

/-- Settles O18. -/
theorem shortFramesAreBuilt : Obligations.ShortFramesAreBuilt := by
  intro s addr tx ack nack ok
  have hack : ack = controlByte tx Config.ccAck := (controlByte_eq_ofNat tx Config.ccAck).symm
  have hnack : nack = controlByte tx Config.ccNack := (controlByte_eq_ofNat tx Config.ccNack).symm
  have hok : ok = addrOk addr := (addrOk_eq_decide_toNat addr).symm
  rw [hack, hnack, hok]
  exact ⟨rfl, rfl, rfl, exec_bldPoll addr s, exec_bldAck addr tx s, exec_bldNack addr tx s⟩

/-- Settles O19: the frame written out is `builtDataFrame`. -/
theorem dataFrameIsBuilt : Obligations.DataFrameIsBuilt := by
  intro s addr cmd noz tx xp control opc span frame
  have hframe : frame = builtDataFrame addr cmd noz tx xp := by
    rw [builtDataFrame, controlByte_eq_ofNat, opcByte_eq_ofNat, dataFrame, closeFrame, lowByte_eq_ofNat, highByte_eq_ofNat]
    rfl
  rw [hframe, ← addrOk_eq_decide_toNat]
  refine ⟨rfl, fun hfits => ⟨dataFrame_length _ _ _ xp, ?_⟩, fun hlong => ?_⟩
  · exact execBldData_of_length_le hfits addr cmd noz tx s
  · rw [exec_bldData, if_pos hlong]
    rfl

/-- Settles O20. -/
theorem sendDataUsesThenAdvancesTxn : Obligations.SendDataUsesThenAdvancesTxn := by
  intro s addr cmd noz xp
  refine ⟨rfl, fun hfits => ⟨builtDataFrame addr cmd noz s.arch.txn xp, addrOk addr, ?_, ?_⟩, fun hlong => ?_⟩
  · exact execBldData_of_length_le hfits addr cmd noz s.arch.txn s
  · rw [exec_sndData, if_neg (Nat.not_lt.mpr hfits)]
    rfl
  · rw [exec_sndData, if_pos hlong]
    rfl

/-- Settles O23: the aliased operand reaches no byte of the frame. -/
theorem aliasedRequestsBuildTheSameFrame : Obligations.AliasedRequestsBuildTheSameFrame := by
  intro s addr cmd noz tx xp
  refine ⟨?_, ?_, ?_, ?_, ?_⟩
  · rw [exec_bldData, builtDataFrame_tx_add_eight, exec_bldData]
  · rw [exec_bldData, builtDataFrame_noz_add_sixteen, exec_bldData]
  · rw [exec_sndData, builtDataFrame_noz_add_sixteen, exec_sndData]
  · rw [exec_bldAck, controlByte_add_eight, exec_bldAck]
  · rw [exec_bldNack, controlByte_add_eight, exec_bldNack]

/-! ### What the decoder reads from a built frame (R130) -/

/-- A built short frame is a frame row, so its record has the row's fields. -/
theorem decodeFrame_shortFrame_controlByte (addr : Byte) (tx code : Nibble) :
    decodeFrame (shortFrame addr (controlByte tx code)) = .short
      { address := addr, control := controlByte tx code, masterFlag := true, tx3 := BitVec.ofNat 3 tx.toNat, code := code
        cls := frameClass code, stopOk := true, addrOk := addrOk addr } := by
  rw [decodeFrame_shortFrame, controlByte_eq_wireControl, shortRecord_wireControl]
  rfl

theorem opcByte_fields (cmd : Nibble) (noz : Byte) :
    hiNibble (opcByte cmd noz) = cmd ∧ loNibble (opcByte cmd noz) = BitVec.ofNat 4 noz.toNat := by
  rw [opcByte_eq_packOpc]
  exact packOpc_fields cmd (loNibble noz)

/-- The record of a built DATA frame: the operands of the request, with what R74 and R75 keep of `tx` and `noz`. -/
theorem decodeFrame_builtDataFrame (addr : Byte) (cmd : Nibble) (noz : Byte) (tx : Nibble) {xp : List Byte}
    (hxp : xp.length ≤ 254) :
    decodeFrame (builtDataFrame addr cmd noz tx xp) = .data
      { address := addr, control := controlByte tx Config.ccData, masterFlag := true, tx3 := BitVec.ofNat 3 tx.toNat
        code := Config.ccData, length := BitVec.ofNat 8 (1 + xp.length), opc := opcByte cmd noz, opcHi := cmd
        nozzle := BitVec.ofNat 4 noz.toNat, payload := xp
        crc := crc16 (dataSpan addr (controlByte tx Config.ccData) (opcByte cmd noz) xp), etxOk := true, stopPresent := true
        addrOk := addrOk addr } := by
  obtain ⟨hmaster, htx3, hcode⟩ := controlByte_fields tx Config.ccData
  obtain ⟨hcmd, hnoz⟩ := opcByte_fields cmd noz
  rw [builtDataFrame, decodeFrame_dataFrame _ _ _ hcode hxp, dataRecord_dataFrame _ _ _ hxp, hmaster, htx3, hcode, hcmd, hnoz]
  rfl

/-- Settles O24: `TXBUF` holds the built frame, and its record is the request's. -/
theorem decoderRecoversBuiltFrames : Obligations.DecoderRecoversBuiltFrames := by
  intro s addr cmd noz tx xp ok tx3 control opc
  have hok : ok = addrOk addr := (addrOk_eq_decide_toNat addr).symm
  have hack : control 2 = controlByte tx Config.ccAck := (controlByte_eq_ofNat tx Config.ccAck).symm
  have hnack : control 3 = controlByte tx Config.ccNack := (controlByte_eq_ofNat tx Config.ccNack).symm
  have hdata : control 4 = controlByte tx Config.ccData := (controlByte_eq_ofNat tx Config.ccData).symm
  have hopc : opc = opcByte cmd noz := (opcByte_eq_ofNat cmd noz).symm
  rw [hok, hack, hnack, hdata, hopc]
  exact ⟨⟨_, exec_bldPoll addr s, decodeFrame_shortFrame_controlByte addr 0 Config.ccPoll⟩,
    ⟨_, exec_bldAck addr tx s, decodeFrame_shortFrame_controlByte addr tx Config.ccAck⟩,
    ⟨_, exec_bldNack addr tx s, decodeFrame_shortFrame_controlByte addr tx Config.ccNack⟩,
    fun hxp => ⟨_, execBldData_of_length_le hxp addr cmd noz tx s, decodeFrame_builtDataFrame addr cmd noz tx hxp⟩⟩

end Sys2Proof.Proofs
end

section
/-! The decoder U3 (R150 to R163): the fields of a SHORT record in numbers, when `DEC_FRAME` answers with each kind of record, and the
DATA frames as a grammar. -/

namespace Sys2Proof.Proofs

open Sys2Proof Sys2Proof.Machine

/-! ### The fields of R152 in the spec's arithmetic -/

theorem ctrlMaster_eq_decide (c : Byte) : ctrlMaster c = decide (128 ≤ c.toNat) :=
  BitVec.msb_eq_decide c

theorem ctrlTx3_eq_ofNat (c : Byte) : ctrlTx3 c = BitVec.ofNat 3 (c.toNat / 16) := by
  simp [ctrlTx3, BitVec.extractLsb', Nat.shiftRight_eq_div_pow]

theorem ctrlCode_eq_ofNat (c : Byte) : ctrlCode c = BitVec.ofNat 4 c.toNat := rfl

theorem toNat_ctrlCode (c : Byte) : (ctrlCode c).toNat = c.toNat % 16 := rfl

theorem ctrlCode_eq_ccData_iff (c : Byte) : ctrlCode c = Config.ccData ↔ c.toNat % 16 = 4 :=
  BitVec.toNat_inj.symm

/-- The class of R153 as a chain of tests. -/
theorem frameClass_eq_ite (code : Nibble) :
    frameClass code = if code.toNat = 1 then .poll else if code.toNat = 2 then .ack else if code.toNat = 3 then .nack
      else .unknown := by
  revert code; decide

theorem wordOf_eq_ofNat (lo hi : Byte) : wordOf lo hi = BitVec.ofNat 16 (lo.toNat + 256 * hi.toNat) := by
  refine ((eq_wordOf_iff _ lo hi).mpr ⟨?_, ?_⟩).symm
  · rw [lowByte_eq_ofNat]
    bv_omega
  · rw [highByte_eq_ofNat]
    bv_omega

theorem getElem?_eq_some_byteAt {bytes : List Byte} {i : Nat} (hi : i < bytes.length) :
    bytes[i]? = some (byteAt bytes i) := by
  simp [byteAt, hi]

/-! ### When the decoder answers with which record -/

/-- The sequence is too short for a DATA frame, or its control code is another one (R155). -/
abbrev FailsClass (bytes : List Byte) : Prop :=
  bytes.length < 7 ∨ ctrlCode (byteAt bytes 1) ≠ Config.ccData

/-- The span before the check bytes does not hold the four header bytes (R156). -/
abbrev FailsSpan (bytes : List Byte) : Prop := spanLength bytes < 4

/-- The residue over span and check bytes is not zero (R157). -/
abbrev FailsCrc (bytes : List Byte) : Prop := crc16 (bytes.take (spanLength bytes + 2)) ≠ 0x0000

/-- The `length` byte does not count the span's bytes after it (R158). -/
abbrev FailsLength (bytes : List Byte) : Prop :=
  (byteAt bytes 2).toNat = 0 ∨ 3 + (byteAt bytes 2).toNat ≠ spanLength bytes

/-- What the decoder answers (R151): one case for each end of the tests in the order of R161. -/
inductive DecodesTo (bytes : List Byte) : Decoded → Prop
  | short (hshort : bytes.length = 3) :
      DecodesTo bytes (.short (shortRecord (byteAt bytes 0) (byteAt bytes 1) (byteAt bytes 2)))
  | cls (hshort : bytes.length ≠ 3) (hcls : FailsClass bytes) : DecodesTo bytes (.unparseable bytes .cls)
  | span (hshort : bytes.length ≠ 3) (hcls : ¬ FailsClass bytes) (hspan : FailsSpan bytes) :
      DecodesTo bytes (.unparseable bytes .span)
  | crc (hshort : bytes.length ≠ 3) (hcls : ¬ FailsClass bytes) (hspan : ¬ FailsSpan bytes) (hcrc : FailsCrc bytes) :
      DecodesTo bytes (.unparseable bytes .crc)
  | length (hshort : bytes.length ≠ 3) (hcls : ¬ FailsClass bytes) (hspan : ¬ FailsSpan bytes) (hcrc : ¬ FailsCrc bytes)
      (hlength : FailsLength bytes) : DecodesTo bytes (.unparseable bytes .length)
  | data (hshort : bytes.length ≠ 3) (hcls : ¬ FailsClass bytes) (hspan : ¬ FailsSpan bytes) (hcrc : ¬ FailsCrc bytes)
      (hlength : ¬ FailsLength bytes) : DecodesTo bytes (.data (dataRecord bytes))

theorem decodesTo_decodeFrame (bytes : List Byte) : DecodesTo bytes (decodeFrame bytes) := by
  unfold decodeFrame
  split_ifs with hshort hcls hspan hcrc hlength
  · exact .short hshort
  · exact .cls hshort hcls
  · exact .span hshort hcls hspan
  · exact .crc hshort hcls hspan hcrc
  · exact .length hshort hcls hspan hcrc hlength
  · exact .data hshort hcls hspan hcrc hlength

theorem decodeFrame_eq_iff {bytes : List Byte} {d : Decoded} : decodeFrame bytes = d ↔ DecodesTo bytes d := by
  constructor
  · rintro rfl
    exact decodesTo_decodeFrame bytes
  · intro h
    unfold decodeFrame
    cases h with
    | short hshort => rw [if_pos hshort]
    | cls hshort hcls => rw [if_neg hshort, if_pos hcls]
    | span hshort hcls hspan => rw [if_neg hshort, if_neg hcls, if_pos hspan]
    | crc hshort hcls hspan hcrc => rw [if_neg hshort, if_neg hcls, if_neg hspan, if_pos hcrc]
    | length hshort hcls hspan hcrc hlength =>
      rw [if_neg hshort, if_neg hcls, if_neg hspan, if_neg hcrc, if_pos hlength]
    | data hshort hcls hspan hcrc hlength =>
      rw [if_neg hshort, if_neg hcls, if_neg hspan, if_neg hcrc, if_neg hlength]

theorem length_eq_three_of_decodeFrame_eq_short {bytes : List Byte} {f : ShortRecord} (h : decodeFrame bytes = .short f) :
    bytes.length = 3 := by
  cases decodeFrame_eq_iff.mp h with
  | short hshort => exact hshort

theorem raw_eq_of_decodeFrame_eq_unparseable {bytes raw : List Byte} {why : Why}
    (h : decodeFrame bytes = .unparseable raw why) : raw = bytes := by
  cases decodeFrame_eq_iff.mp h <;> rfl

/-- The last byte alone fixes `T` (R154). -/
theorem tailLength_eq_one_or_two (bytes : List Byte) : tailLength bytes = 1 ∨ tailLength bytes = 2 := by
  unfold tailLength
  split <;> simp

/-- A span of 4 bytes makes the sequence long enough, and then a `length` byte that counts it is not zero. -/
theorem decodeFrame_eq_data_iff {bytes : List Byte} {f : DataRecord} :
    decodeFrame bytes = .data f ↔
      ctrlCode (byteAt bytes 1) = Config.ccData ∧ 4 ≤ spanLength bytes ∧ crc16 (bytes.take (spanLength bytes + 2)) = 0x0000 ∧
        3 + (byteAt bytes 2).toNat = spanLength bytes ∧ f = dataRecord bytes := by
  rw [decodeFrame_eq_iff]
  constructor
  · intro h
    cases h with
    | data hshort hcls hspan hcrc hlength =>
      obtain ⟨-, hcode⟩ := not_or.mp hcls
      obtain ⟨-, hcount⟩ := not_or.mp hlength
      exact ⟨not_not.mp hcode, Nat.not_lt.mp hspan, not_not.mp hcrc, not_not.mp hcount, rfl⟩
  · rintro ⟨hcode, hspan, hcrc, hcount, rfl⟩
    have hlong : 7 ≤ bytes.length := by
      have htail := tailLength_eq_one_or_two bytes
      unfold spanLength at hspan
      omega
    exact .data (by omega) (not_or.mpr ⟨Nat.not_lt.mpr hlong, not_not.mpr hcode⟩) (Nat.not_lt.mpr hspan) (not_not.mpr hcrc)
      (by omega)

/-- The sequence of a DATA record has the length of R154 and R158. -/
theorem length_of_decodeFrame_eq_data {bytes : List Byte} {f : DataRecord} (h : decodeFrame bytes = .data f) :
    bytes.length = 5 + f.length.toNat + (if f.stopPresent then 2 else 1) := by
  obtain ⟨-, hspan, -, hcount, rfl⟩ := decodeFrame_eq_data_iff.mp h
  have htail : (if (dataRecord bytes).stopPresent then 2 else 1) = tailLength bytes := by
    change (if decide (tailLength bytes = 2) then 2 else 1) = tailLength bytes
    obtain hT | hT := tailLength_eq_one_or_two bytes <;> rw [hT] <;> rfl
  have hlength : (dataRecord bytes).length = byteAt bytes 2 := rfl
  rw [htail, hlength]
  unfold spanLength at hspan hcount
  omega

/-! ### What `DEC_FRAME` does, and for which sequence -/

/-- The effect of `DEC_FRAME` (R150): the record is returned, and its outcome goes to `err_code`. -/
theorem exec_decFrame {bytes : List Byte} {d : Decoded} (hdecode : decodeFrame bytes = d) (s : State) :
    exec (.decFrame bytes) s =
      .next { s with arch := { s.arch with errCode := d.errName.code }, result := .decoded d } := by
  subst hdecode
  rfl

/-- Settles O25. -/
theorem decodingWritesErrCodeAlone : Obligations.DecodingWritesErrCodeAlone := by
  intro s bytes
  refine ⟨rfl, fun f h => exec_decFrame h s, fun f h => exec_decFrame h s, fun raw why h => ?_⟩
  obtain rfl := raw_eq_of_decodeFrame_eq_unparseable h
  exact ⟨rfl, exec_decFrame h s⟩

/-- Settles O26. -/
theorem threeBytesDecodeAsShort : Obligations.ThreeBytesDecodeAsShort := by
  refine ⟨fun a c x => ?_, fun _ _ => length_eq_three_of_decodeFrame_eq_short⟩
  rw [← ctrlMaster_eq_decide, ← ctrlTx3_eq_ofNat, ← ctrlCode_eq_ofNat, ← toNat_ctrlCode, ← frameClass_eq_ite,
    ← addrOk_eq_decide_toNat]
  rfl

/-- Settles O29. -/
theorem sequenceLengthDecidesTheKind : Obligations.SequenceLengthDecidesTheKind := by
  intro bytes
  refine ⟨fun hshort => ?_, fun hthree => ?_, fun hlong => ?_, fun f hdata => ?_⟩
  · simp only [List.mem_cons, List.not_mem_nil, or_false] at hshort
    exact decodeFrame_eq_iff.mpr (.cls (by omega) (.inl (by omega)))
  · exact ⟨_, decodeFrame_eq_iff.mpr (.short hthree)⟩
  · cases hdecode : decodeFrame bytes with
    | short f => have := length_eq_three_of_decodeFrame_eq_short hdecode; omega
    | data f => exact .inl ⟨f, rfl⟩
    | unparseable raw why =>
      obtain rfl := raw_eq_of_decodeFrame_eq_unparseable hdecode
      exact .inr ⟨why, rfl⟩
  · have hlength := length_of_decodeFrame_eq_data hdata
    refine ⟨hlength, ?_⟩
    have hbyte := f.length.isLt
    split at hlength <;> omega

/-- The cases of `DecodesTo` with an UNPARSEABLE record, by their reasons. -/
theorem decodeFrame_eq_unparseable_iff {bytes : List Byte} {why : Why} :
    decodeFrame bytes = .unparseable bytes why ↔ bytes.length ≠ 3 ∧
      ((why = .cls ∧ FailsClass bytes) ∨ (why = .span ∧ ¬ FailsClass bytes ∧ FailsSpan bytes) ∨
        (why = .crc ∧ ¬ FailsClass bytes ∧ ¬ FailsSpan bytes ∧ FailsCrc bytes) ∨
        (why = .length ∧ ¬ FailsClass bytes ∧ ¬ FailsSpan bytes ∧ ¬ FailsCrc bytes ∧ FailsLength bytes)) := by
  rw [decodeFrame_eq_iff]
  constructor
  · intro h
    cases h with
    | cls hshort hcls => exact ⟨hshort, .inl ⟨rfl, hcls⟩⟩
    | span hshort hcls hspan => exact ⟨hshort, .inr (.inl ⟨rfl, hcls, hspan⟩)⟩
    | crc hshort hcls hspan hcrc => exact ⟨hshort, .inr (.inr (.inl ⟨rfl, hcls, hspan, hcrc⟩))⟩
    | length hshort hcls hspan hcrc hlength => exact ⟨hshort, .inr (.inr (.inr ⟨rfl, hcls, hspan, hcrc, hlength⟩))⟩
  · rintro ⟨hshort, ⟨rfl, hcls⟩ | ⟨rfl, hcls, hspan⟩ | ⟨rfl, hcls, hspan, hcrc⟩ | ⟨rfl, hcls, hspan, hcrc, hlength⟩⟩
    · exact .cls hshort hcls
    · exact .span hshort hcls hspan
    · exact .crc hshort hcls hspan hcrc
    · exact .length hshort hcls hspan hcrc hlength

/-- Settles O28: the statement's words for the four tests are the decoder's. -/
theorem unparseableReasonFollowsTheTestOrder : Obligations.UnparseableReasonFollowsTheTestOrder := by
  intro bytes why n tail span isData residueZero
  have hspan : span = spanLength bytes := by
    simp only [span, tail, n, spanLength, tailLength, List.getLast?_eq_getElem?]
  have hdata : isData ↔ ¬ FailsClass bytes := by
    rw [FailsClass, not_or, not_lt, not_not]
    refine and_congr_right fun hlong => ?_
    rw [ctrlCode_eq_ccData_iff, getElem?_eq_some_byteAt (by omega)]
    simp
  have hfour : 4 ≤ span ↔ ¬ FailsSpan bytes := by rw [hspan, FailsSpan, not_lt]
  have hresidue : residueZero ↔ ¬ FailsCrc bytes := by rw [FailsCrc, not_not, ← hspan]
  have hlength (hcls : ¬ FailsClass bytes) :
      (∃ len, bytes[2]? = some len ∧ (len.toNat = 0 ∨ 3 + len.toNat ≠ span)) ↔ FailsLength bytes := by
    obtain ⟨hlong, -⟩ := not_or.mp hcls
    rw [getElem?_eq_some_byteAt (by omega), hspan]
    simp
  rw [decodeFrame_eq_unparseable_iff, hfour, hdata, hresidue]
  refine and_congr_right' (or_congr ?_ (or_congr ?_ (or_congr ?_ ?_)))
  · rw [not_not]
  · rw [hspan]
  · rw [not_not]
  · exact and_congr_right' (and_congr_right fun hcls => and_congr_right' (and_congr_right' (hlength hcls).symm))

/-! ### The DATA frames as a grammar -/

/-- The parts of a DATA frame. The STOP_FLAG may be missing only if the ETX position does not hold its value (R154, R159). -/
structure DataParts where
  address : Byte
  control : Byte
  length : Byte
  opc : Byte
  payload : List Byte
  crcLow : Byte
  crcHigh : Byte
  etx : Byte
  stop : Bool
  etx_ne_stopFlag : stop = false → etx ≠ Config.stopFlag

namespace DataParts

/-- The span and the check bytes, which have residue zero (R157). -/
def checked (p : DataParts) : List Byte :=
  [p.address, p.control, p.length, p.opc] ++ p.payload ++ [p.crcLow, p.crcHigh]

def bytes (p : DataParts) : List Byte :=
  [p.address, p.control, p.length, p.opc] ++ p.payload ++ [p.crcLow, p.crcHigh, p.etx] ++
    (if p.stop then [Config.stopFlag] else [])

/-- The fields of R152 and R159, by the parts. -/
def record (p : DataParts) : DataRecord :=
  { address := p.address, control := p.control, masterFlag := decide (128 ≤ p.control.toNat)
    tx3 := BitVec.ofNat 3 (p.control.toNat / 16), code := 4, length := p.length, opc := p.opc
    opcHi := BitVec.ofNat 4 (p.opc.toNat / 16), nozzle := BitVec.ofNat 4 p.opc.toNat, payload := p.payload
    crc := BitVec.ofNat 16 (p.crcLow.toNat + 256 * p.crcHigh.toNat), etxOk := decide (p.etx = 0x03), stopPresent := p.stop
    addrOk := decide (0x50 ≤ p.address.toNat ∧ p.address.toNat ≤ 0x6F) }

variable (p : DataParts)

theorem byteAt_bytes_header :
    byteAt p.bytes 0 = p.address ∧ byteAt p.bytes 1 = p.control ∧ byteAt p.bytes 2 = p.length ∧ byteAt p.bytes 3 = p.opc :=
  ⟨rfl, rfl, rfl, rfl⟩

theorem byteAt_bytes_tail :
    byteAt p.bytes (4 + p.payload.length) = p.crcLow ∧ byteAt p.bytes (4 + p.payload.length + 1) = p.crcHigh ∧
      byteAt p.bytes (4 + p.payload.length + 2) = p.etx := by
  have htail (k : Nat) : byteAt p.bytes (4 + p.payload.length + k) =
      byteAt ([p.crcLow, p.crcHigh, p.etx] ++ if p.stop then [Config.stopFlag] else []) k := by
    rw [byteAt, bytes, List.append_assoc, List.getD_append_right _ _ _ _ (by simp; omega)]
    congr 1
    simp
    omega
  exact ⟨htail 0, htail 1, htail 2⟩

theorem getLast?_bytes : p.bytes.getLast? = some (if p.stop then Config.stopFlag else p.etx) := by
  rw [bytes, List.append_assoc, List.getLast?_append]
  cases p.stop <;> rfl

/-- The last byte is the STOP_FLAG's value exactly when the STOP_FLAG is there. -/
theorem tailLength_bytes : tailLength p.bytes = if p.stop then 2 else 1 := by
  rw [tailLength, getLast?_bytes]
  cases hstop : p.stop with
  | true => rfl
  | false => simpa using p.etx_ne_stopFlag hstop

theorem spanLength_bytes : spanLength p.bytes = 4 + p.payload.length := by
  rw [spanLength, tailLength_bytes, bytes]
  cases p.stop <;> simp <;> omega

theorem take_bytes : p.bytes.take (4 + p.payload.length + 2) = p.checked := by
  have hsplit : p.bytes = p.checked ++ ([p.etx] ++ if p.stop then [Config.stopFlag] else []) := by
    simp [bytes, checked]
  have hlength : p.checked.length = 4 + p.payload.length + 2 := by
    simp [checked]
    omega
  rw [hsplit, List.take_left' hlength]

theorem slice_bytes : slice p.bytes 4 (4 + p.payload.length) = p.payload := by
  simp [slice, bytes, Nat.add_comm 4]

theorem dataRecord_bytes (hcode : ctrlCode p.control = Config.ccData) (hcount : p.length.toNat = 1 + p.payload.length) :
    dataRecord p.bytes = p.record := by
  obtain ⟨haddress, hcontrol, hlength, hopc⟩ := p.byteAt_bytes_header
  obtain ⟨hlow, hhigh, hetx⟩ := p.byteAt_bytes_tail
  have hpayload : slice p.bytes 4 (3 + (1 + p.payload.length)) = p.payload := by rw [← Nat.add_assoc, slice_bytes]
  have hstop : decide ((if p.stop then 2 else 1) = 2) = p.stop := by cases p.stop <;> rfl
  simp only [dataRecord, record, spanLength_bytes, tailLength_bytes, haddress, hcontrol, hlength, hopc, hlow, hhigh, hetx, hcode,
    hcount, hpayload, hstop, ctrlMaster_eq_decide, ctrlTx3_eq_ofNat, hiNibble_eq_ofNat, loNibble_eq_ofNat, wordOf_eq_ofNat,
    addrOk_eq_decide_toNat]

/-- On a sequence made of parts the tests of R155 to R158 speak of the parts. -/
theorem decodeFrame_bytes_eq_data_iff {f : DataRecord} :
    decodeFrame p.bytes = .data f ↔
      p.control.toNat % 16 = 4 ∧ p.length.toNat = 1 + p.payload.length ∧ crc16 p.checked = 0x0000 ∧ f = p.record := by
  obtain ⟨-, hcontrol, hlength, -⟩ := p.byteAt_bytes_header
  rw [decodeFrame_eq_data_iff, spanLength_bytes, take_bytes, hcontrol, hlength]
  constructor
  · rintro ⟨hcode, -, hcrc, hspan, rfl⟩
    have hcount : p.length.toNat = 1 + p.payload.length := by omega
    exact ⟨(ctrlCode_eq_ccData_iff _).mp hcode, hcount, hcrc, p.dataRecord_bytes hcode hcount⟩
  · rintro ⟨hfour, hcount, hcrc, rfl⟩
    have hcode : ctrlCode p.control = Config.ccData := (ctrlCode_eq_ccData_iff _).mpr hfour
    exact ⟨hcode, Nat.le_add_right _ _, hcrc, by omega, (p.dataRecord_bytes hcode hcount).symm⟩

end DataParts

/-- Seven bytes or more are four header bytes, a payload, and three bytes after it. -/
theorem exists_parts_of_length_ge {bytes : List Byte} (hlong : 7 ≤ bytes.length) :
    ∃ (a c len o : Byte) (payload : List Byte) (lo hi x : Byte), bytes = [a, c, len, o] ++ payload ++ [lo, hi, x] := by
  obtain ⟨a, c, len, o, rest, rfl⟩ : ∃ a c len o rest, bytes = [a, c, len, o] ++ rest := by
    match bytes, hlong with
    | a :: c :: len :: o :: rest, _ => exact ⟨a, c, len, o, rest, rfl⟩
  have hthree : (rest.drop (rest.length - 3)).length = 3 := by
    simp at hlong ⊢
    omega
  obtain ⟨lo, hi, x, hdrop⟩ := List.length_eq_three.mp hthree
  refine ⟨a, c, len, o, rest.take (rest.length - 3), lo, hi, x, ?_⟩
  rw [← hdrop, List.append_assoc, List.take_append_drop]

/-- A sequence with a span of 4 bytes or more is made of parts: its last byte says whether it ends in the STOP_FLAG (R154). -/
theorem exists_dataParts_of_spanLength_ge {bytes : List Byte} (hspan : 4 ≤ spanLength bytes) :
    ∃ p : DataParts, bytes = p.bytes := by
  unfold spanLength tailLength at hspan
  split at hspan
  next hlast =>
    obtain ⟨front, rfl⟩ := List.getLast?_eq_some_iff.mp hlast
    have hfront : 7 ≤ front.length := by
      simp at hspan
      omega
    obtain ⟨a, c, len, o, payload, lo, hi, x, rfl⟩ := exists_parts_of_length_ge hfront
    exact ⟨⟨a, c, len, o, payload, lo, hi, x, true, nofun⟩, rfl⟩
  next hlast =>
    have hlong : 7 ≤ bytes.length := by omega
    obtain ⟨a, c, len, o, payload, lo, hi, x, rfl⟩ := exists_parts_of_length_ge hlong
    have hetx : x ≠ Config.stopFlag := by
      rintro rfl
      exact hlast (by rw [List.getLast?_append]; rfl)
    exact ⟨⟨a, c, len, o, payload, lo, hi, x, false, fun _ => hetx⟩, (List.append_nil _).symm⟩

/-- Settles O27: a DATA record's sequence is made of parts, and the decoder's tests of it are the grammar's conditions. -/
theorem dataFramesAreExactlyTheGrammar : Obligations.DataFramesAreExactlyTheGrammar := by
  intro bytes f
  constructor
  · intro hdata
    obtain ⟨-, hspan, -⟩ := decodeFrame_eq_data_iff.mp hdata
    obtain ⟨p, rfl⟩ := exists_dataParts_of_spanLength_ge hspan
    obtain ⟨hcode, hcount, hcrc, rfl⟩ := p.decodeFrame_bytes_eq_data_iff.mp hdata
    exact ⟨p.address, p.control, p.length, p.opc, p.payload, p.crcLow, p.crcHigh, p.etx, p.stop, rfl, p.etx_ne_stopFlag, hcode,
      hcount, hcrc, rfl⟩
  · rintro ⟨a, c, len, o, payload, lo, hi, x, stop, rfl, hstop, hcode, hcount, hcrc, rfl⟩
    exact (DataParts.mk a c len o payload lo hi x stop hstop).decodeFrame_bytes_eq_data_iff.mpr ⟨hcode, hcount, hcrc, rfl⟩

end Sys2Proof.Proofs
end

section
/-! The noise search of U4 (R182, R185): `collapse` answers from the first run of three noise patterns, byte by byte, and a new byte can
only complete a run that ends in it. -/

namespace Sys2Proof.Proofs

open Sys2Proof Sys2Proof.Machine

variable {addr : Byte} {buf : List Byte} {p : Nat}

/-! ### Where a run stands -/

theorem noiseRun_length (addr : Byte) : (noiseRun addr).length = 9 := rfl

/-- The nine bytes that the search compares are the run of R182. -/
theorem noiseRunAt_iff_isPrefix : NoiseRunAt addr buf p ↔ noiseRun addr <+: buf.drop p := by
  refine ⟨noiseRun_isPrefix_of_noiseRunAt, fun hpre k hk => ?_⟩
  have hbyte (j : Nat) (hj : j < 9) : buf[p + j]? = some ((noiseRun addr)[j]'hj) := by
    rw [← List.getElem?_drop]
    exact List.prefix_iff_getElem?.mp hpre j hj
  interval_cases k
  · exact ⟨hbyte 0 (by omega), hbyte 1 (by omega), hbyte 2 (by omega)⟩
  · exact ⟨hbyte 3 (by omega), hbyte 4 (by omega), hbyte 5 (by omega)⟩
  · exact ⟨hbyte 6 (by omega), hbyte 7 (by omega), hbyte 8 (by omega)⟩

/-- A run lies within the buffer. -/
theorem add_nine_le_of_noiseRunAt (h : NoiseRunAt addr buf p) : p + 9 ≤ buf.length := by
  have hlen := (noiseRunAt_iff_isPrefix.mp h).length_le
  rw [noiseRun_length, List.length_drop] at hlen
  omega

/-! ### What the search answers -/

theorem findRun_zero_eq_none_iff : findRun addr buf 0 = none ↔ ∀ p, ¬ NoiseRunAt addr buf p := by
  simp only [noiseRunAt_iff_isPrefix]
  refine ⟨findRun_eq_none, fun hno => ?_⟩
  cases hfind : findRun addr buf 0 with
  | none => rfl
  | some q =>
    obtain ⟨-, -, hrun, -⟩ := findRun_eq_some hfind
    exact absurd hrun (hno _)

theorem findRun_zero_eq_some_iff :
    findRun addr buf 0 = some p ↔ NoiseRunAt addr buf p ∧ ∀ q < p, ¬ NoiseRunAt addr buf q := by
  simp only [noiseRunAt_iff_isPrefix]
  constructor
  · intro hfind
    obtain ⟨-, -, hrun, hfirst⟩ := findRun_eq_some hfind
    exact ⟨hrun, hfirst⟩
  · rintro ⟨hrun, hfirst⟩
    cases hfind : findRun addr buf 0 with
    | none => exact absurd hrun (findRun_eq_none hfind p)
    | some q =>
      obtain ⟨-, -, hrun', hfirst'⟩ := findRun_eq_some hfind
      have hle : q ≤ p := Nat.le_of_not_lt fun hlt => hfirst' p hlt hrun
      have hge : p ≤ q := Nat.le_of_not_lt fun hlt => hfirst q hlt hrun'
      exact congrArg some (Nat.le_antisymm hle hge)

theorem collapse_eq_map (buf : List Byte) (addr : Byte) :
    collapse buf addr = (findRun addr buf 0).map fun p => if p = 0 then 3 else p := by
  unfold collapse
  cases findRun addr buf 0 <;> rfl

theorem collapse_eq_none_iff : collapse buf addr = none ↔ ∀ p, ¬ NoiseRunAt addr buf p := by
  rw [collapse_eq_map, Option.map_eq_none_iff, findRun_zero_eq_none_iff]

theorem collapse_eq_some_iff {r : Nat} :
    collapse buf addr = some r ↔
      ∃ p, NoiseRunAt addr buf p ∧ (∀ q < p, ¬ NoiseRunAt addr buf q) ∧ r = if p = 0 then 3 else p := by
  simp only [collapse_eq_map, Option.map_eq_some_iff, findRun_zero_eq_some_iff, and_assoc, eq_comm (a := r)]

/-- Settles O37. -/
theorem collapseFindsTheFirstRun : Obligations.CollapseFindsTheFirstRun :=
  fun _ _ => ⟨fun _ => collapse_eq_some_iff, collapse_eq_none_iff⟩

/-! ### The incremental form -/

/-- In a buffer without a run, a new byte makes a run exactly when the last nine bytes are one (R185). -/
theorem noiseRunAt_append_singleton_iff {b : Byte} (hquiet : ∀ q, ¬ NoiseRunAt addr buf q) :
    NoiseRunAt addr (buf ++ [b]) p ↔ p + 8 = buf.length ∧ (buf ++ [b]).drop p = noiseRun addr := by
  rw [noiseRunAt_iff_isPrefix]
  constructor
  · intro hrun
    have hle := add_nine_le_of_noiseRunAt (noiseRunAt_iff_isPrefix.mpr hrun)
    rw [List.length_append, List.length_singleton] at hle
    have hlast : p + 8 = buf.length := by
      by_contra hinside
      have hfits : (noiseRun addr).length ≤ (buf.drop p).length := by
        rw [noiseRun_length, List.length_drop]
        omega
      rw [List.drop_append_of_le_length (by omega)] at hrun
      exact hquiet p (noiseRunAt_iff_isPrefix.mpr (List.prefix_of_prefix_length_le hrun (List.prefix_append _ _) hfits))
    refine ⟨hlast, (hrun.eq_of_length ?_).symm⟩
    rw [noiseRun_length, List.length_drop, List.length_append, List.length_singleton]
    omega
  · rintro ⟨-, hnine⟩
    exact hnine ▸ List.prefix_rfl

/-- Settles O38: the only place for a run is the last nine bytes. -/
theorem collapseNeedsOnlyTheLastNineBytes : Obligations.CollapseNeedsOnlyTheLastNineBytes := by
  intro buf b addr hnone
  have hquiet := collapse_eq_none_iff.mp hnone
  split
  next hnine =>
    obtain ⟨hlen, hbytes⟩ := hnine
    have hrun : NoiseRunAt addr (buf ++ [b]) (buf.length - 8) :=
      (noiseRunAt_append_singleton_iff hquiet).mpr ⟨by omega, hbytes⟩
    have hfirst : ∀ q < buf.length - 8, ¬ NoiseRunAt addr (buf ++ [b]) q := fun q hq hrun => by
      obtain ⟨hlast, -⟩ := (noiseRunAt_append_singleton_iff hquiet).mp hrun
      omega
    have hoffset : buf.length = 8 ↔ buf.length - 8 = 0 := by omega
    exact collapse_eq_some_iff.mpr ⟨_, hrun, hfirst, by simp only [hoffset]⟩
  next hnine =>
    refine collapse_eq_none_iff.mpr fun p hrun => ?_
    obtain ⟨hlast, hbytes⟩ := (noiseRunAt_append_singleton_iff hquiet).mp hrun
    obtain rfl : p = buf.length - 8 := by omega
    exact hnine ⟨by omega, hbytes⟩

end Sys2Proof.Proofs
end

section
/-! The stimuli of U4 (R171 to R184): what each does in every state of the receive, and that every receive ends (R188, R274). -/

namespace Sys2Proof.Proofs

open Sys2Proof Sys2Proof.Machine

variable {s t : State}

/-! ### `RX_START` -/

/-- The three ends of `RX_START`, in the order of R172 and R183. -/
theorem exec_rxStart (addr : Byte) (total : Word16) (s : State) :
    exec (.rxStart addr total) s =
      if s.arch.rxState = .active then .next (raiseFailure .busy s)
      else if totalLegal total then .next (succeed (openReceive addr total s.arch) .noResult s)
      else .next (raiseFailure (.badOperand total.toNat) s) := rfl

theorem totalLegal_iff {total : Word16} : totalLegal total = true ↔ 1 ≤ total.toNat ∧ total.toNat ≤ 65534 := by
  refine ⟨totalLegal_range, fun ⟨hpos, hmax⟩ => ?_⟩
  simp only [totalLegal, Bool.and_eq_true, decide_eq_true_eq]
  constructor <;> bv_omega

/-- Settles O32. -/
theorem rxStartOpensAReceive : Obligations.RxStartOpensAReceive := by
  intro s addr total hclosed hpos hmax
  refine ⟨rfl, succeed (openReceive addr total s.arch) .noResult s, ?_, rfl, rfl, rfl, rfl, rfl, rfl⟩
  rw [exec_rxStart, if_neg hclosed, if_pos (totalLegal_iff.mpr ⟨hpos, hmax⟩)]

/-- Settles O33. -/
theorem rxStartRefusals : Obligations.RxStartRefusals := by
  refine fun s addr total => ⟨fun hactive => ?_, fun hclosed htotal => ?_⟩
  · rw [exec_rxStart, if_pos hactive]
    rfl
  · have hillegal : ¬ totalLegal total = true := by
      rw [totalLegal_iff]
      omega
    rw [exec_rxStart, if_neg hclosed, if_neg hillegal]
    rfl

/-! ### `RX_BYTE` -/

theorem exec_rxByte_of_active (b : Byte) (hactive : s.arch.rxState = .active) : exec (.rxByte b) s = .next (acceptByte b s) :=
  if_pos (decide_eq_true hactive)

/-- Settles O36. -/
theorem rxByteOutsideActiveChangesNothing : Obligations.RxByteOutsideActiveChangesNothing :=
  fun _ _ hclosed => if_neg (by simpa [Arch.rxReady] using hclosed)

/-- Settles O34: the noise rule comes before the other two ends of an accepted byte. -/
theorem rxByteCollapsesNoise : Obligations.RxByteCollapsesNoise := by
  intro s b r hactive hcollapse
  rw [exec_rxByte_of_active b hactive]
  obtain ⟨n, hn, heq⟩ | ⟨hnone, -, -⟩ | ⟨hnone, -, -⟩ := acceptByte_cases b s
  · obtain rfl : n = r := Option.some.inj (hn.symm.trans hcollapse)
    rw [heq]
    rfl
  · exact nomatch hnone.symm.trans hcollapse
  · exact nomatch hnone.symm.trans hcollapse

/-- Settles O35: without a collapse the buffer's capacity decides. -/
theorem rxByteAppendsAndOverflows : Obligations.RxByteAppendsAndOverflows := by
  intro s b hactive hquiet
  rw [exec_rxByte_of_active b hactive]
  obtain ⟨n, hn, -⟩ | ⟨-, hfull, heq⟩ | ⟨-, hroom, heq⟩ := acceptByte_cases b s
  · exact nomatch hquiet.symm.trans hn
  · exact ⟨rfl, fun hroom => absurd hfull hroom, fun _ => heq ▸ rfl⟩
  · exact ⟨rfl, fun _ => heq ▸ rfl, fun hfull => absurd hfull hroom⟩

/-! ### `RX_TICK` -/

theorem exec_rxTick_of_active (hactive : s.arch.rxState = .active) : exec .rxTick s = .next (activeTick s) :=
  if_pos hactive

/-- Settles O40. -/
theorem rxTickOutsideActiveChangesNothing : Obligations.RxTickOutsideActiveChangesNothing :=
  fun _ hclosed => if_neg hclosed

/-- A candidate frame end, byte by byte (R178). -/
theorem candEnd_iff {a : Arch} : a.candEnd = true ↔ 8 ≤ a.rxLen ∧ a.rxRead (a.rxLen - 1) = some 0xFA := by
  simp only [Arch.candEnd, candidateEnd, Bool.and_eq_true, decide_eq_true_eq, List.getLast?_eq_getElem?]
  rfl

/-- The conditions of R177 on the timers before the tick. -/
theorem tickReason_countTick (c : Config) (a : Arch) :
    tickReason c (countTick a) =
      if a.rxTotal.toNat < (a.tTotal + 1).toNat then some .totalTimeout
      else if 8 ≤ a.rxLen ∧ a.rxRead (a.rxLen - 1) = some 0xFA ∧ c.confirmTicks ≤ (a.tSilence + 1).toNat then some .stopConfirmed
      else if 1 ≤ a.rxLen ∧ c.quietTicks ≤ (a.tSilence + 1).toNat then some .silence
      else none := by
  simp only [tickReason, candEnd_iff, and_assoc]
  rfl

theorem exec_rxTick_of_tickReason_eq_some {r : RxReason} (hactive : s.arch.rxState = .active)
    (hreason : tickReason s.cfg (countTick s.arch) = some r) :
    exec .rxTick s = .next (succeed (endReceive r (countTick s.arch)) .noResult s) := by
  rw [exec_rxTick_of_active hactive]
  simp only [activeTick, hreason]

theorem exec_rxTick_of_tickReason_eq_none (hactive : s.arch.rxState = .active)
    (hreason : tickReason s.cfg (countTick s.arch) = none) :
    exec .rxTick s = .next (succeed (countTick s.arch) .noResult s) := by
  rw [exec_rxTick_of_active hactive]
  simp only [activeTick, hreason]

/-- Settles O39: each clause picks its branch of `tickReason`. -/
theorem rxTickCountsAndEnds : Obligations.RxTickCountsAndEnds := by
  intro s hactive total silence timeout stop quiet ends
  have hreason := tickReason_countTick s.cfg s.arch
  refine ⟨rfl, fun htimeout => ?_, fun htimeout hstop => ?_, fun htimeout hstop hquiet => ?_, fun htimeout hstop hquiet => ?_⟩
  · rw [if_pos htimeout] at hreason
    exact exec_rxTick_of_tickReason_eq_some hactive hreason
  · rw [if_neg htimeout, if_pos hstop] at hreason
    exact exec_rxTick_of_tickReason_eq_some hactive hreason
  · rw [if_neg htimeout, if_neg hstop, if_pos hquiet] at hreason
    exact exec_rxTick_of_tickReason_eq_some hactive hreason
  · rw [if_neg htimeout, if_neg hstop, if_neg hquiet] at hreason
    exact exec_rxTick_of_tickReason_eq_none hactive hreason

/-! ### `RX_RD` -/

theorem exec_rxRd (s : State) :
    exec .rxRd s =
      .next (finish s.arch (if s.arch.rxState = .done ∧ s.arch.rxLen = 0 then .noResponse else .ok)
        (.received s.arch.rxState s.arch.rxReason s.arch.rxbuf) s) := rfl

/-- Settles O41. -/
theorem rxReadReturnsTheBuffer : Obligations.RxReadReturnsTheBuffer := by
  refine fun s => ⟨rfl, fun hdone hempty => ?_, fun hother => ?_⟩
  · rw [exec_rxRd, if_pos ⟨hdone, hempty⟩]
    rfl
  · rw [exec_rxRd, if_neg hother]
    rfl

/-! ### Every receive ends -/

theorem execAll_cons {i : Instr} {is : List Instr} (hexec : exec i s = .next t) : execAll (i :: is) s = execAll is t := by
  rw [execAll, hexec]

/-- A receive that has ended stays so under every instruction but `RESET` and `RX_START` (R27). -/
theorem execAll_of_done {is : List Instr} (hdone : s.arch.rxState = .done) (hreset : .reset ∉ is)
    (hstart : ∀ addr total, .rxStart addr total ∉ is) : ∃ t, execAll is s = .next t ∧ t.arch.rxState = .done := by
  induction is generalizing s with
  | nil => exact ⟨s, rfl, hdone⟩
  | cons i is ih =>
    obtain ⟨hi, hreset⟩ := List.ne_and_not_mem_of_not_mem_cons hreset
    obtain ⟨u, hexec, heffect⟩ := exec_eq_next_effect i s
    rw [execAll_cons hexec]
    refine ih (effect_of_done heffect hdone hi.symm ?_).2 hreset fun addr total => List.not_mem_of_not_mem_cons (hstart addr total)
    exact fun addr total => (List.ne_of_not_mem_cons (hstart addr total)).symm

/-- A tick while ACTIVE ends the receive or moves `t_total` one nearer to `rx_total` (R177). -/
theorem exec_rxTick_progress (h : s.Inv) (hactive : s.arch.rxState = .active) (hexec : exec .rxTick s = .next t) :
    t.arch.rxState = .done ∨
      (t.arch.rxState = .active ∧ t.arch.rxTotal = s.arch.rxTotal ∧ t.arch.tTotal.toNat = s.arch.tTotal.toNat + 1) := by
  rw [exec_rxTick_of_active hactive] at hexec
  cases hexec
  obtain ⟨r, -, heq⟩ | ⟨-, heq⟩ := activeTick_cases s
  · exact .inl (heq ▸ rfl)
  · rw [heq]
    exact .inr ⟨hactive, rfl, (countTick_toNat h.arch_inv hactive).1⟩

/-- An instruction other than `RESET`, `RX_START` and `RX_TICK` may end the receive, and writes neither `t_total` nor its limit (R21,
R27). -/
theorem exec_active_of_ne_rxTick {i : Instr} (hactive : s.arch.rxState = .active) (hexec : exec i s = .next t)
    (hreset : i ≠ .reset) (hstart : ∀ addr total, i ≠ .rxStart addr total) (htick : i ≠ .rxTick) :
    t.arch.rxState = .done ∨
      (t.arch.rxState = .active ∧ t.arch.rxTotal = s.arch.rxTotal ∧ t.arch.tTotal = s.arch.tTotal) := by
  have hnostart : ¬ ∃ addr total, i = .rxStart addr total := fun ⟨addr, total, hi⟩ => hstart addr total hi
  obtain ⟨-, -, -, -, hlimit, htimer, -⟩ := elementsAreWrittenOnlyByTheirStimuli i s t hexec hreset
  have htotal : t.arch.rxTotal = s.arch.rxTotal := by_contra fun hne => hnostart (hlimit (.inr hne))
  have hcount : t.arch.tTotal = s.arch.tTotal := by_contra fun hne => (htimer hne).elim hnostart htick
  obtain hsame | ⟨-, -, hi⟩ | ⟨-, hdone, -⟩ | ⟨-, hi⟩ := effect_rxState (effect_of_exec hexec)
  · exact .inr ⟨hsame.trans hactive, htotal, hcount⟩
  · exact absurd hi hnostart
  · exact .inl hdone
  · exact absurd hi hreset

/-- What an instruction leaves of a receive in ACTIVE: its end, or a receive that has counted the instruction if it was a tick. -/
theorem exec_active_progress {i : Instr} (h : s.Inv) (hactive : s.arch.rxState = .active) (hexec : exec i s = .next t)
    (hreset : i ≠ .reset) (hstart : ∀ addr total, i ≠ .rxStart addr total) :
    t.arch.rxState = .done ∨
      (t.arch.rxState = .active ∧ t.arch.rxTotal = s.arch.rxTotal ∧
        t.arch.tTotal.toNat = s.arch.tTotal.toNat + if i = .rxTick then 1 else 0) := by
  by_cases htick : i = .rxTick
  · subst htick
    exact exec_rxTick_progress h hactive hexec
  · rw [if_neg htick]
    exact (exec_active_of_ne_rxTick hactive hexec hreset hstart htick).imp_right
      fun ⟨hstate, htotal, hcount⟩ => ⟨hstate, htotal, congrArg BitVec.toNat hcount⟩

/-- Settles O43, by induction on the instructions: while the receive is ACTIVE the invariant keeps `t_total` within `rx_total`, and each
tick brings it nearer. -/
theorem receiveEndsWithinTotalTicks : Obligations.ReceiveEndsWithinTotalTicks := by
  intro s is h hactive hreset hstart hticks
  induction is generalizing s with
  | nil =>
    obtain ⟨-, hle, -⟩ := h.arch_inv.active_timers hactive
    exact absurd hle (BitVec.not_le.mpr hticks)
  | cons i is ih =>
    obtain ⟨hi, hreset⟩ := List.ne_and_not_mem_of_not_mem_cons hreset
    have hne (addr : Byte) (total : Word16) : i ≠ .rxStart addr total := (List.ne_of_not_mem_cons (hstart addr total)).symm
    have hrest (addr : Byte) (total : Word16) : .rxStart addr total ∉ is := List.not_mem_of_not_mem_cons (hstart addr total)
    obtain ⟨u, hexec, -⟩ := exec_eq_next_effect i s
    rw [execAll_cons hexec]
    obtain hdone | ⟨hactive', htotal, hcount⟩ := exec_active_progress h hactive hexec hi.symm hne
    · exact execAll_of_done hdone hreset hrest
    · refine ih u (exec_keeps_inv h hexec) hactive' hreset hrest ?_
      rw [htotal, hcount]
      simp only [List.count_cons, beq_iff_eq] at hticks
      omega

end Sys2Proof.Proofs
end

section
/-! The unpacker U5 (R201 to R210): the fields of the control, `opc` and status bytes in the spec's arithmetic, the status record of a
decoded frame, and a BCD sequence read as a decimal number. -/

namespace Sys2Proof.Proofs

open Sys2Proof Sys2Proof.Machine

/-! ### The fields of a byte in numbers -/

theorem getLsbD_eq_decide_div_mod (b : Byte) (i : Nat) : b.getLsbD i = decide (b.toNat / 2 ^ i % 2 = 1) :=
  Nat.testBit_eq_decide_div_mod_eq

theorem toNat_hiNibble_eq_div (b : Byte) : (hiNibble b).toNat = b.toNat / 16 := by
  rw [hiNibble_eq_ofNat, BitVec.toNat_ofNat, Nat.mod_eq_of_lt (by omega)]

theorem toNat_loNibble_eq_mod (b : Byte) : (loNibble b).toNat = b.toNat % 16 := rfl

/-- Settles O45. -/
theorem controlByteIsUnpacked : Obligations.ControlByteIsUnpacked := by
  intro s c
  rw [← ctrlMaster_eq_decide, ← ctrlTx3_eq_ofNat, ← ctrlCode_eq_ofNat, ← toNat_ctrlCode, ← ctrlKind_eq_ite]
  exact ⟨rfl, rfl⟩

theorem unpackStatus_eq (st : Byte) :
    unpackStatus st = .status (BitVec.ofNat 4 st.toNat) (decide (st.toNat / 16 % 2 = 1)) (decide (st.toNat / 32 % 2 = 1))
      (decide (st.toNat / 64 % 2 = 1)) := by
  rw [unpackStatus, getLsbD_eq_decide_div_mod, getLsbD_eq_decide_div_mod, getLsbD_eq_decide_div_mod]
  rfl

/-- R205: none of the four fields reaches bit 7. -/
theorem unpackStatus_xor_bit_seven (st : Byte) : unpackStatus (st ^^^ 0x80) = unpackStatus st := by
  have hcode : loNibble (st ^^^ 0x80) = loNibble st := by simp [loNibble, BitVec.extractLsb'_xor]
  rw [unpackStatus, hcode, BitVec.getLsbD_xor, BitVec.getLsbD_xor, BitVec.getLsbD_xor]
  simp [unpackStatus]

theorem exec_unpStat (st : Byte) (s : State) : exec (.unpStat st) s = .next (succeed s.arch (unpackStatus st) s) := rfl

/-- Settles O46. -/
theorem opcAndStatusBytesAreUnpacked : Obligations.OpcAndStatusBytesAreUnpacked := by
  intro s o st
  rw [← hiNibble_eq_ofNat, ← loNibble_eq_ofNat o, ← unpackStatus_eq]
  refine ⟨rfl, rfl, rfl, rfl, ?_⟩
  rw [exec_unpStat, exec_unpStat, unpackStatus_xor_bit_seven]

/-! ### The status record of a decoded frame (R207, R208) -/

theorem statusValid_data_iff {f : DataRecord} : statusValid (.data f) = true ↔ f.opcHi = 0 ∧ 2 ≤ f.payload.length := by
  simp only [statusValid, Bool.and_eq_true, decide_eq_true_eq]

theorem statusFailure_data (f : DataRecord) :
    statusFailure (.data f) = if statusValid (.data f) then none else some .unsupportedResponseType := rfl

/-- Without a status byte there is no record (R207). -/
theorem pumpStatus_of_statusByte_eq_none {c : Config} {d : Decoded} (hbyte : statusByte c d = none) :
    pumpStatus c d = PumpStatus.invalid := by
  simp only [pumpStatus, hbyte]

theorem pumpStatus_data_of_statusByte_eq_some {c : Config} {f : DataRecord} {st : Byte} (hbyte : statusByte c (.data f) = some st) :
    pumpStatus c (.data f) = validPumpStatus f st := by
  simp only [pumpStatus, hbyte]

theorem statusByte_data_eq_none {c : Config} {f : DataRecord} (hinvalid : ¬ statusValid (.data f) = true) :
    statusByte c (.data f) = none := if_neg hinvalid

/-- Every legal `STATUS_BYTE_INDEX` lies inside the payload of a valid record (R208). -/
theorem exists_statusByte_of_statusValid {c : Config} {f : DataRecord} (hc : c.Valid) (hvalid : statusValid (.data f) = true) :
    ∃ st, f.payload[c.statusByteIndex]? = some st ∧ statusByte c (.data f) = some st := by
  obtain ⟨-, -, -, hindex⟩ := hc
  obtain ⟨-, hlong⟩ := statusValid_data_iff.mp hvalid
  have hget : f.payload[c.statusByteIndex]? = some f.payload[c.statusByteIndex] := List.getElem?_eq_getElem (by omega)
  exact ⟨_, hget, (if_pos hvalid).trans hget⟩

theorem validPumpStatus_eq (f : DataRecord) (st : Byte) :
    validPumpStatus f st =
      { isValid := true, address := f.address, nozzleNumber := f.nozzle, statusCode := BitVec.ofNat 4 st.toNat
        nozzleOn := decide (st.toNat / 16 % 2 = 1), rfTagSensed := decide (st.toNat / 32 % 2 = 1)
        errorFlag := decide (st.toNat / 64 % 2 = 1) } := by
  rw [validPumpStatus, getLsbD_eq_decide_div_mod, getLsbD_eq_decide_div_mod, getLsbD_eq_decide_div_mod]
  rfl

/-- Settles O31: `status_valid` decides whether there is a status byte, and the status byte whether there is a record. -/
theorem statusRecordNeedsAValidFrame : Obligations.StatusRecordNeedsAValidFrame := by
  intro c f g raw why
  refine ⟨statusValid_data_iff, rfl, rfl, rfl, rfl, rfl, fun hinvalid => ?_, fun hresponse hlong hc => ?_⟩
  · rw [← statusValid_data_iff] at hinvalid
    rw [statusFailure_data, if_neg hinvalid, pumpStatus_of_statusByte_eq_none (statusByte_data_eq_none hinvalid)]
    exact ⟨rfl, rfl⟩
  · obtain ⟨st, hget, hbyte⟩ := exists_statusByte_of_statusValid hc (statusValid_data_iff.mpr ⟨hresponse, hlong⟩)
    exact ⟨st, hget, (pumpStatus_data_of_statusByte_eq_some hbyte).trans (validPumpStatus_eq f st)⟩

/-! ### BCD sequences (R210) -/

/-- The digits of a BCD sequence, most significant first. -/
abbrev bcdNibbles (bytes : List Byte) : List Nat := bytes.flatMap fun b => [b.toNat / 16, b.toNat % 16]

theorem bcdNibbles_length (bytes : List Byte) : (bcdNibbles bytes).length = 2 * bytes.length := by
  simp [List.length_flatMap, Nat.mul_comm]

theorem bcdDigits_iff {b : Byte} : bcdDigits b = true ↔ ∀ d ∈ [b.toNat / 16, b.toNat % 16], d ≤ 9 := by
  rw [bcdDigits, Bool.and_eq_true, decide_eq_true_eq, decide_eq_true_eq, toNat_hiNibble_eq_div, toNat_loNibble_eq_mod]
  simp

theorem all_bcdDigits_iff {bytes : List Byte} : bytes.all bcdDigits = true ↔ ∀ d ∈ bcdNibbles bytes, d ≤ 9 := by
  simp only [List.all_eq_true, bcdDigits_iff, List.forall_mem_flatMap]

theorem bcdValue_append_singleton (bytes : List Byte) (b : Byte) :
    bcdValue (bytes ++ [b]) = bcdValue bytes * 100 + b.toNat / 16 * 10 + b.toNat % 16 := by
  rw [bcdValue, List.foldl_append, ← toNat_hiNibble_eq_div, ← toNat_loNibble_eq_mod]
  rfl

/-- The converter's value is the decimal number of the digits, by induction on the last byte: it adds the two lowest digits. -/
theorem bcdValue_eq_ofDigits (bytes : List Byte) : bcdValue bytes = Nat.ofDigits 10 (bcdNibbles bytes).reverse := by
  induction bytes using List.reverseRecOn with
  | nil => rfl
  | append_singleton bytes b ih =>
    have hreverse : (bcdNibbles (bytes ++ [b])).reverse = b.toNat % 16 :: b.toNat / 16 :: (bcdNibbles bytes).reverse := by
      simp
    rw [bcdValue_append_singleton, ih, hreverse, Nat.ofDigits_cons, Nat.ofDigits_cons]
    omega

theorem ofDigits_bcdNibbles_lt {bytes : List Byte} (hdigits : ∀ d ∈ bcdNibbles bytes, d ≤ 9) :
    Nat.ofDigits 10 (bcdNibbles bytes).reverse < 10 ^ (2 * bytes.length) := by
  rw [← bcdNibbles_length, ← List.length_reverse]
  exact Nat.ofDigits_lt_base_pow_length (by decide) fun d hd => Nat.lt_succ_of_le (hdigits d (List.mem_reverse.mp hd))

/-- The three ends of `BCD_CONV`. -/
theorem exec_bcdConv (bytes : List Byte) (s : State) :
    exec (.bcdConv bytes) s =
      if s.cfg.bcdMaxBytes < bytes.length then .next (raiseFailure (.badOperand bytes.length) s)
      else if bytes.all bcdDigits then .next (succeed s.arch (.bcd (bcdValue bytes) true) s)
      else .next (finish s.arch .malformedFrame (.bcd 0 false) s) := rfl

/-- Settles O48. -/
theorem bcdIsConvertedToDecimal : Obligations.BcdIsConvertedToDecimal := by
  intro s bytes digits value
  refine ⟨rfl, fun hfits hdigits => ⟨ofDigits_bcdNibbles_lt hdigits, ?_⟩, fun hfits ⟨d, hd, hbig⟩ => ?_, fun hlong => ?_⟩
  · rw [exec_bcdConv, if_neg (Nat.not_lt.mpr hfits), if_pos (all_bcdDigits_iff.mpr hdigits), bcdValue_eq_ofDigits]
    rfl
  · have hinvalid : ¬ bytes.all bcdDigits = true := fun hall => Nat.not_lt.mpr (all_bcdDigits_iff.mp hall d hd) hbig
    rw [exec_bcdConv, if_neg (Nat.not_lt.mpr hfits), if_neg hinvalid]
    rfl
  · rw [exec_bcdConv, if_pos hlong]
    rfl

end Sys2Proof.Proofs
end

section
/-! The sequencer U6 (R220 to R224): which instructions write `txn`, and the numbers a run of advancing instructions goes through. -/

namespace Sys2Proof.Proofs

open Sys2Proof Sys2Proof.Machine

/-! ### The stimuli of U6 -/

theorem exec_txnRd (s : State) : exec .txnRd s = .next (succeed s.arch (.txn s.arch.txn) s) := rfl

theorem exec_txnAdv (s : State) : exec .txnAdv s = .next (succeed (advanceTxn s.arch) .noResult s) := rfl

theorem exec_txnTake (s : State) : exec .txnTake s = .next (succeed (advanceTxn s.arch) (.txn s.arch.txn) s) := rfl

/-- A `SND_DATA` that is not refused (R128). -/
theorem exec_sndData_of_length_le {xp : List Byte} (hfits : xp.length ≤ 254) (addr : Byte) (cmd : Nibble) (noz : Byte) (s : State) :
    exec (.sndData addr cmd noz xp) s =
      .next (succeed (advanceTxn (txLoad (builtDataFrame addr cmd noz s.arch.txn xp) s.arch))
        (.sent (builtDataFrame addr cmd noz s.arch.txn xp) (addrOk addr) s.arch.txn) s) := by
  rw [exec_sndData, if_neg (Nat.not_lt.mpr hfits)]

/-- The successor written out as in R221. -/
theorem txnNext_eq_ite (n : Nibble) : txnNext n = if n = 15 then 1 else n + 1 := rfl

/-- Settles O49: the successor of R221 is `txnNext`. -/
theorem sequencerStimuli : Obligations.SequencerStimuli := by
  intro s next
  have hnext : next = txnNext s.arch.txn := (txnNext_eq_ite s.arch.txn).symm
  rw [hnext]
  exact ⟨rfl, rfl, rfl, exec_txnRd s, exec_txnAdv s, exec_txnTake s⟩

/-! ### What writes `txn` (R223) -/

/-- Settles O52: the instructions that may write `txn` are those of its row in R21 (O56), and each of them is read off its equation. -/
theorem onlySendsAndSequencerAdvanceTxn : Obligations.OnlySendsAndSequencerAdvanceTxn := by
  intro i s t hexec
  have hkeeps (hreset : i ≠ .reset)
      (hother : ¬ (i = .txnAdv ∨ i = .txnTake ∨ ∃ addr cmd noz xp, i = .sndData addr cmd noz xp)) : t.arch.txn = s.arch.txn := by
    obtain ⟨-, hwriter, -⟩ := elementsAreWrittenOnlyByTheirStimuli i s t hexec hreset
    exact by_contra fun hne => hother (hwriter hne)
  cases i with
  | txnAdv | txnTake | reset =>
    cases hexec
    rfl
  | sndData addr cmd noz xp =>
    by_cases hlong : 254 < xp.length
    · rw [exec_sndData, if_pos hlong] at hexec
      cases hexec
      exact (if_pos hlong).symm
    · rw [exec_sndData, if_neg hlong] at hexec
      cases hexec
      exact (if_neg hlong).symm
  | _ => exact hkeeps nofun (by simp)

/-! ### Runs of advancing instructions (R221, R224) -/

/-- From every state the instruction answers a next state with the next transaction number. -/
def AdvancesTxn (i : Instr) : Prop :=
  ∀ s, ∃ t, exec i s = .next t ∧ t.arch.txn = txnNext s.arch.txn

theorem advancesTxn_txnAdv : AdvancesTxn .txnAdv :=
  fun s => ⟨_, exec_txnAdv s, rfl⟩

theorem advancesTxn_sndData {xp : List Byte} (hfits : xp.length ≤ 254) (addr : Byte) (cmd : Nibble) (noz : Byte) :
    AdvancesTxn (.sndData addr cmd noz xp) :=
  fun s => ⟨_, exec_sndData_of_length_le hfits addr cmd noz s, rfl⟩

theorem execAll_append {is js : List Instr} {s t : State} (hrun : execAll is s = .next t) :
    execAll (is ++ js) s = execAll js t := by
  induction is generalizing s with
  | nil =>
    cases hrun
    rfl
  | cons i is ih =>
    obtain ⟨u, hexec, -⟩ := exec_eq_next_effect i s
    rw [execAll_cons hexec] at hrun
    rw [List.cons_append, execAll_cons hexec, ih hrun]

/-- A run of advancing instructions applies the successor once for each of them. -/
theorem execAll_txn_of_advances {is : List Instr} (hadvances : ∀ i ∈ is, AdvancesTxn i) (s : State) :
    ∃ t, execAll is s = .next t ∧ t.arch.txn = txnNext^[is.length] s.arch.txn := by
  induction is generalizing s with
  | nil => exact ⟨s, rfl, rfl⟩
  | cons i is ih =>
    obtain ⟨hi, hrest⟩ := List.forall_mem_cons.mp hadvances
    obtain ⟨u, hexec, htxn⟩ := hi s
    rw [execAll_cons hexec, List.length_cons, Function.iterate_succ_apply, ← htxn]
    exact ih hrest u

theorem execAll_replicate_txnAdv (k : Nat) (s : State) :
    ∃ t, execAll (List.replicate k .txnAdv) s = .next t ∧ t.arch.txn = txnNext^[k] s.arch.txn := by
  have hadvances : ∀ i ∈ List.replicate k Instr.txnAdv, AdvancesTxn i := fun i hi =>
    List.eq_of_mem_replicate hi ▸ advancesTxn_txnAdv
  simpa using execAll_txn_of_advances hadvances s

/-- The successor in arithmetic: 15 is followed by 1, and even 0 would be (R221). -/
theorem toNat_txnNext (n : Nibble) : (txnNext n).toNat = n.toNat % 15 + 1 := by
  revert n; decide

/-- Legal numbers are the residues modulo 15, counted from 1: `k` advances add `k`. -/
theorem toNat_iterate_txnNext {n : Nibble} (hlegal : n ≠ 0) (k : Nat) :
    (txnNext^[k] n).toNat = (n.toNat - 1 + k) % 15 + 1 := by
  induction k with
  | zero =>
    rw [Function.iterate_zero_apply]
    bv_omega
  | succ k ih =>
    rw [Function.iterate_succ_apply', toNat_txnNext, ih]
    omega

theorem toNat_iterate_txnNext_one (k : Nat) : (txnNext^[k] 1).toNat = k % 15 + 1 := by
  simpa using toNat_iterate_txnNext (n := 1) (by decide) k

theorem iterate_txnNext_fifteen {n : Nibble} (hlegal : n ≠ 0) : txnNext^[15] n = n := by
  apply BitVec.eq_of_toNat_eq
  rw [toNat_iterate_txnNext hlegal]
  bv_omega

/-- Settles O50. -/
theorem txnCyclesWithPeriodFifteen : Obligations.TxnCyclesWithPeriodFifteen := by
  refine ⟨fun k s hone => ?_, fun s hlegal => ?_⟩
  · obtain ⟨t, hrun, htxn⟩ := execAll_replicate_txnAdv k s
    exact ⟨t, hrun, by rw [htxn, hone, toNat_iterate_txnNext_one]⟩
  · obtain ⟨t, hrun, htxn⟩ := execAll_replicate_txnAdv 15 s
    exact ⟨t, hrun, htxn.trans (iterate_txnNext_fifteen hlegal)⟩

/-- Settles O51: the sends before the last advance the number from 1 (R21), and the last one returns what `txn` then holds. -/
theorem sendsUseTheNumbersInOrder : Obligations.SendsUseTheNumbersInOrder := by
  intro before addr cmd noz xp hbefore hfits
  have hadvances : ∀ i ∈ before.map fun o => Instr.sndData o.1 o.2.1 o.2.2.1 o.2.2.2, AdvancesTxn i :=
    List.forall_mem_map.mpr fun o ho => advancesTxn_sndData (hbefore o ho) _ _ _
  obtain ⟨u, hrun, htxn⟩ := execAll_txn_of_advances hadvances State.reset
  have htoNat : u.arch.txn.toNat = before.length % 15 + 1 := by
    rw [htxn, List.length_map]
    exact toNat_iterate_txnNext_one before.length
  have hnumber : u.arch.txn = BitVec.ofNat 4 (before.length % 15 + 1) := by
    rw [← htoNat, BitVec.ofNat_toNat, BitVec.setWidth_eq]
  have hlast := exec_sndData_of_length_le hfits addr cmd noz u
  exact ⟨_, _, _, (execAll_append hrun).trans (execAll_cons hlast), congrArg (Result.sent _ _) hnumber⟩

end Sys2Proof.Proofs
end

section
/-! Failures and idling (R230, R240, R248): with no input a step keeps the state, a step stops on malformed inputs alone, and a failure
writes `err_code` and, but for RxOverflow, nothing else. -/

namespace Sys2Proof.Proofs

open Sys2Proof Sys2Proof.Machine

/-! ### Steps without a next state -/

/-- Settles O2. -/
theorem blockIsQuiescentWithoutInput : Obligations.BlockIsQuiescentWithoutInput := by
  intro s hpending
  simp only [step, takeInput, hpending]

theorem runInput_of_decode_illegalCode {inp : Input} {code : Byte} (hdecode : decode inp = .error (.illegalCode code)) (s : State) :
    runInput inp s = .next (illegalStimulus code s) := by
  simp only [runInput, hdecode]

theorem runInput_of_decode_error {inp : Input} {why : DecodeError} (hdecode : decode inp = .error why)
    (hwhy : ∀ code, why ≠ .illegalCode code) (s : State) : runInput inp s = .refused (.malformedInput why) := by
  cases why with
  | illegalCode code => exact absurd rfl (hwhy code)
  | empty | missingOperands | trailingOperands | operandTooWide => simp only [runInput, hdecode]

/-- Every instruction has a meaning (R230), so that only the decoder's errors other than an illegal code (R87) refuse an input. -/
theorem runInput_eq_refused_iff {inp : Input} {s : State} {r : Refusal} :
    runInput inp s = .refused r ↔
      ∃ why, decode inp = .error why ∧ (∀ code, why ≠ .illegalCode code) ∧ r = .malformedInput why := by
  constructor
  · intro hrefused
    cases hdecode : decode inp with
    | ok i =>
      obtain ⟨t, hexec, -⟩ := exec_eq_next_effect i s
      rw [runInput_of_decode_ok hdecode, hexec] at hrefused
      cases hrefused
    | error why =>
      have hwhy : ∀ code, why ≠ .illegalCode code := by
        rintro code rfl
        rw [runInput_of_decode_illegalCode hdecode] at hrefused
        cases hrefused
      rw [runInput_of_decode_error hdecode hwhy] at hrefused
      cases hrefused
      exact ⟨why, rfl, hwhy, rfl⟩
  · rintro ⟨why, hdecode, hwhy, rfl⟩
    exact runInput_of_decode_error hdecode hwhy s

/-- Settles O4: a refusal needs an input, and performing it decides. -/
theorem onlyMalformedInputsAreRefused : Obligations.OnlyMalformedInputsAreRefused := by
  intro s r
  cases hpending : s.pending with
  | nil => simp [blockIsQuiescentWithoutInput s hpending]
  | cons inp rest =>
    rw [step_of_pending_cons hpending, runInput_eq_refused_iff]
    simp only [List.cons.injEq]
    constructor
    · rintro ⟨why, hwhy⟩
      exact ⟨inp, rest, why, ⟨rfl, rfl⟩, hwhy⟩
    · rintro ⟨_, _, why, ⟨rfl, rfl⟩, hwhy⟩
      exact ⟨why, hwhy⟩

/-! ### What a failure changes -/

/-- Settles O55: an ending with a nonzero code keeps the block, reports an outcome, or is the overflow; the others succeed. -/
theorem failuresChangeNothingElse : Obligations.FailuresChangeNothingElse := by
  intro i s t hexec hfailed
  cases effect_of_exec hexec with
  | keeps | reports => exact .inl rfl
  | overflows b => exact .inr ⟨b, rfl, rfl⟩
  | resets | writesCrc | builds | sends | advances | opens | collapses | appends | tickEnds | tickCounts => exact absurd rfl hfailed

/-- An effect leaves the inputs after it. -/
theorem effect_pending {i : Instr} {s t : State} (h : Effect s i t) : t.pending = s.pending := by
  cases h <;> rfl

theorem failure_code_ne_zero (f : Failure) : f.name.code ≠ 0 := by
  cases f <;> simp [Failure.name, ErrName.code]

/-- The codes of R231 tell RxOverflow from the other failures. -/
theorem eq_rxOverflow_of_code {f : Failure} (hcode : f.name.code = 8) : f = .rxOverflow := by
  cases f with
  | rxOverflow => rfl
  | lengthOverflow | busy | illegalStimulus | badOperand => simp [Failure.name, ErrName.code] at hcode

/-- A stimulus that leaves `err_code` (R33) returns no failure. -/
theorem result_ne_failed_of_keepsErrCode {i : Instr} {s t : State} (hkeep : keepsErrCode i s.arch = true) (hexec : exec i s = .next t)
    (f : Failure) : t.result ≠ .failed f := by
  cases i with
  | nop =>
    cases hexec
    exact nofun
  | rxByte b =>
    have hclosed : s.arch.rxState ≠ .active := by simpa [keepsErrCode, Arch.rxReady] using hkeep
    rw [rxByteOutsideActiveChangesNothing s b hclosed] at hexec
    cases hexec
    exact nofun
  | rxTick =>
    have hclosed : s.arch.rxState ≠ .active := by simpa [keepsErrCode, Arch.rxActive] using hkeep
    rw [rxTickOutsideActiveChangesNothing s hclosed] at hexec
    cases hexec
    exact nofun
  | _ => cases hkeep

/-- `err_code` takes the code of a returned failure (R33). -/
theorem errCode_of_result_eq_failed {i : Instr} {s t : State} {f : Failure} (hexec : exec i s = .next t)
    (hresult : t.result = .failed f) : t.arch.errCode = f.name.code := by
  have hwrites : keepsErrCode i s.arch = false :=
    Bool.eq_false_iff.mpr fun hkeep => result_ne_failed_of_keepsErrCode hkeep hexec f hresult
  rw [(errCodeIsTheOutcomeOfTheLastStimulus i s t hexec).2 hwrites, hresult]
  rfl

/-- A returned failure other than RxOverflow is the whole effect of its stimulus. -/
theorem eq_raiseFailure_of_result_eq_failed {i : Instr} {s t : State} {f : Failure} (hexec : exec i s = .next t)
    (hresult : t.result = .failed f) (hother : f ≠ .rxOverflow) : t = raiseFailure f s := by
  have hcode := errCode_of_result_eq_failed hexec hresult
  have hne : t.arch.errCode ≠ 0 := hcode ▸ failure_code_ne_zero f
  obtain harch | ⟨b, -, harch⟩ := failuresChangeNothingElse i s t hexec hne
  · have heffect := effect_of_exec hexec
    calc t = ⟨t.cfg, t.arch, t.pending, t.result⟩ := rfl
      _ = raiseFailure f s := by rw [effect_cfg heffect, harch, hcode, effect_pending heffect, hresult]; rfl
  · have height : t.arch.errCode = 8 := by rw [harch]
    exact absurd (eq_rxOverflow_of_code (hcode ▸ height)) hother

/-- Settles O53. -/
theorem noStimulusTraps : Obligations.NoStimulusTraps := by
  intro i s
  obtain ⟨t, hexec, -⟩ := exec_eq_next_effect i s
  exact ⟨t, hexec, fun f hresult =>
    ⟨errCode_of_result_eq_failed hexec hresult, eq_raiseFailure_of_result_eq_failed hexec hresult⟩⟩

end Sys2Proof.Proofs
end

section
/-! Reset and the configuration (R260, R263): the status outputs after `RESET`, and that only the elements of R21 are ever written. -/

namespace Sys2Proof.Proofs

open Sys2Proof Sys2Proof.Machine

/-! ### `RESET` -/

theorem exec_reset (s : State) : exec .reset s = .next { s with arch := Arch.reset, result := .noResult } := rfl

/-- With an empty buffer there is no candidate frame end: R178 asks for at least 8 bytes. -/
theorem candidateEnd_nil : candidateEnd [] = false := rfl

/-- The status outputs of R24 at the reset values. -/
theorem reset_flags :
    Arch.reset.rxIdle = true ∧ Arch.reset.rxEmpty = true ∧ Arch.reset.rxActive = false ∧ Arch.reset.rxDone = false ∧
      Arch.reset.rxReady = false ∧ Arch.reset.candEnd = false ∧ Arch.reset.err = false :=
  ⟨rfl, rfl, rfl, rfl, rfl, candidateEnd_nil, rfl⟩

/-- Settles O11: the whole architectural state is replaced by the reset values, whatever it was. -/
theorem resetWritesEveryElement : Obligations.ResetWritesEveryElement :=
  ⟨rfl, fun s => ⟨_, exec_reset s, rfl, reset_flags⟩⟩

/-! ### The configuration -/

/-- A step writes no configuration: it does nothing, performs an instruction, or answers an illegal code (R263). -/
theorem step_cfg {s t : State} (h : step s = .next t) : t.cfg = s.cfg := by
  obtain rfl | ⟨rest, ⟨i, hexec⟩ | ⟨code, rfl⟩⟩ := step_cases h
  · rfl
  · have hcfg := effect_cfg (effect_of_exec hexec)
    exact hcfg
  · exact illegalStimulus_cfg code _

/-- Settles O58: no effect of an instruction writes the configuration or the inputs after it. -/
theorem configurationIsConstant : Obligations.ConfigurationIsConstant := by
  refine ⟨fun i s t hexec => ?_, fun s t hstep => step_cfg hstep⟩
  have heffect : Effect s i t := effect_of_exec hexec
  exact ⟨effect_cfg heffect, effect_pending heffect⟩

end Sys2Proof.Proofs
end
